-- ==== Sys2Proof/Word.lean ====
section
/-!
DEFINITION. The words of the block (spec/00_scope.md R8, R13): bytes, the 16-bit accumulator word and the
10-bit event word. Everything is unsigned and bit 0 is the least significant bit.
-/

namespace Sys2Proof

/-- A stack entry, a payload byte, a persisted byte, a character code (`BYTE` = 8, R8). -/
abbrev Byte := BitVec 8

/-- The width of `cv` and `dispFmt` (`CV_WIDTH` = 16, R8). -/
abbrev Word16 := BitVec 16

/-- An event word of format `EV10` (spec/30_encoding.md R70): `kind` in bits 9:8, `arg` in bits 7:0. -/
abbrev EventWord := BitVec 10

end Sys2Proof
end

