-- ==== Sys2Proof/Syntax.lean ====
section
/-!
DEFINITION. The instructions of the block: its 13 classes of atomic events (spec/00_scope.md R3, spec/30_encoding.md
R73), one constructor each. RXDONE's side data is not part of the instruction (R71).
-/

namespace Sys2Proof

/-- One constructor per mnemonic of spec/opcode_table.json. A class of several characters keeps the character. -/
inductive Instr where
  /-- `DIGIT`, the digit value `d` (R75). -/
  | digit (d : BitVec 4)
  /-- `PUSH`, the character `,`. -/
  | push
  /-- `CMD_S`, the character `s`. -/
  | cmdS
  /-- `CMD_N`, the character `n`. -/
  | cmdN
  /-- `CMD_X`, the character `x`. -/
  | cmdX
  /-- `CMD_V`, the character `v`. -/
  | cmdV
  /-- `CMD_H`, the character `h`. -/
  | cmdH
  /-- `CMD_LOWER_NOP`, a lowercase letter that is no command. -/
  | cmdLowerNop (c : Byte)
  /-- `CHAR_OTHER`, a character above space that is no digit, comma or lowercase letter. -/
  | charOther (c : Byte)
  /-- `CHAR_BLANK`, a character at or below space. -/
  | charBlank (c : Byte)
  /-- `EV_TXDONE`: transmit complete; the word's `arg` is ignored (R70). -/
  | evTxdone
  /-- `EV_RXDONE`: receive complete, a packet of `size` bytes (R75). -/
  | evRxdone (size : Byte)
  /-- `EV_TICK`: a main-loop iteration with no character pending; the word's `arg` is ignored (R70). -/
  | evTick
  deriving DecidableEq, Repr

/-- The `kind` field of an event word (R70). -/
inductive EventKind where
  | char
  | txdone
  | rxdone
  | tick
  deriving DecidableEq, Repr

/-- The kind of event an instruction is. -/
def Instr.kind : Instr → EventKind
  | .digit _ => .char
  | .push => .char
  | .cmdS => .char
  | .cmdN => .char
  | .cmdX => .char
  | .cmdV => .char
  | .cmdH => .char
  | .cmdLowerNop _ => .char
  | .charOther _ => .char
  | .charBlank _ => .char
  | .evTxdone => .txdone
  | .evRxdone _ => .rxdone
  | .evTick => .tick

end Sys2Proof
end

