-- ==== Sys2Proof/WellFormed.lean ====
section
/-!
DEFINITION. Which instructions are events of the block: the operand of each class lies in the class
(spec/30_encoding.md R73).
-/

namespace Sys2Proof

/-- `a`..`z` (R72). -/
def isLowercase (c : Byte) : Bool := 0x61 ≤ c.toNat && c.toNat ≤ 0x7A

/-- `0`..`9` (R72). -/
def isDigit (c : Byte) : Bool := 0x30 ≤ c.toNat && c.toNat ≤ 0x39

/-- One of the five command letters `s`, `n`, `x`, `v`, `h` (R72, R103). -/
def isCommandLetter (c : Byte) : Bool := [0x73, 0x6E, 0x78, 0x76, 0x68].contains c.toNat

/-- A character at or below space (R73), compared unsigned (R78). -/
def isBlank (c : Byte) : Bool := c.toNat ≤ 0x20

/-- Each operand is in the range R73 gives its class. -/
def Instr.wf : Instr → Bool
  | .digit d => d.toNat ≤ 9
  | .push => true
  | .cmdS => true
  | .cmdN => true
  | .cmdX => true
  | .cmdV => true
  | .cmdH => true
  | .cmdLowerNop c => isLowercase c && !isCommandLetter c
  | .charOther c => !isBlank c && !isDigit c && c.toNat != 0x2C && !isLowercase c
  | .charBlank c => isBlank c
  | .evTxdone => true
  | .evRxdone _ => true
  | .evTick => true

end Sys2Proof
end

