-- ==== Sys2Proof/Decode.lean ====
section
/-!
DEFINITION. From event words to instructions and back (spec/30_encoding.md R70 to R75, R82). The decoder is the
spec's opcode table: rows tried in order, the first that matches wins.
-/

namespace Sys2Proof

/-- What a row of the opcode table selects. -/
inductive CharClass where
  | digit
  | push
  | cmdS
  | cmdN
  | cmdX
  | cmdV
  | cmdH
  | cmdLowerNop
  | charBlank
  deriving DecidableEq, Repr

/-- A row: `word & mask = pattern` selects it (R82). -/
structure OpcodeRow where
  pattern : EventWord
  mask : EventWord
  cls : CharClass
  deriving DecidableEq, Repr

/-- Rows 1 to 17 of spec/opcode_table.json, in its order. Rows 18 to 21 match on `kind` alone and are `decodeKind`. -/
def opcodeRows : List OpcodeRow :=
  [ ⟨0x030, 0x3F8, .digit⟩, ⟨0x038, 0x3FE, .digit⟩,
    ⟨0x02C, 0x3FF, .push⟩,
    ⟨0x073, 0x3FF, .cmdS⟩, ⟨0x06E, 0x3FF, .cmdN⟩, ⟨0x078, 0x3FF, .cmdX⟩, ⟨0x076, 0x3FF, .cmdV⟩,
    ⟨0x068, 0x3FF, .cmdH⟩,
    ⟨0x061, 0x3FF, .cmdLowerNop⟩, ⟨0x062, 0x3FE, .cmdLowerNop⟩, ⟨0x064, 0x3FC, .cmdLowerNop⟩,
    ⟨0x068, 0x3F8, .cmdLowerNop⟩, ⟨0x070, 0x3F8, .cmdLowerNop⟩, ⟨0x078, 0x3FE, .cmdLowerNop⟩,
    ⟨0x07A, 0x3FF, .cmdLowerNop⟩,
    ⟨0x000, 0x3E0, .charBlank⟩, ⟨0x020, 0x3FF, .charBlank⟩ ]

/-- The word lies in the row. -/
def OpcodeRow.hits (r : OpcodeRow) (w : EventWord) : Bool := w &&& r.mask == r.pattern

/-- The class of the first row that matches. -/
def firstRow : List OpcodeRow → EventWord → Option CharClass
  | [], _ => none
  | r :: rs, w => if r.hits w then some r.cls else firstRow rs w

/-- The `arg` field, bits 7:0 (R70). -/
def wordArg (w : EventWord) : Byte := w.extractLsb' 0 8

/-- The `kind` field, bits 9:8 (R70); its four values are exhaustive. -/
def wordKind (w : EventWord) : EventKind :=
  match (w.extractLsb' 8 2).toNat with
  | 0 => .char
  | 1 => .txdone
  | 2 => .rxdone
  | _ => .tick

/-- The instruction of a class, its operand taken from the character (R75: `d = c[3:0]`). -/
def CharClass.instr (c : Byte) : CharClass → Instr
  | .digit => .digit (c.extractLsb' 0 4)
  | .push => .push
  | .cmdS => .cmdS
  | .cmdN => .cmdN
  | .cmdX => .cmdX
  | .cmdV => .cmdV
  | .cmdH => .cmdH
  | .cmdLowerNop => .cmdLowerNop c
  | .charBlank => .charBlank c

/-- Rows 18 to 21: the catch-all of CHAR, then TXDONE, RXDONE and TICK by `kind` alone. -/
def decodeKind (w : EventWord) : Instr :=
  match wordKind w with
  | .char => .charOther (wordArg w)
  | .txdone => .evTxdone
  | .rxdone => .evRxdone (wordArg w)
  | .tick => .evTick

/-- The decoder: total, since every event word has exactly one meaning (R70, R77). -/
def decode (w : EventWord) : Instr :=
  match firstRow opcodeRows w with
  | some cls => cls.instr (wordArg w)
  | none => decodeKind w

/-- Why a number is no event. -/
inductive DecodeError where
  /-- The number has bits above bit 9, so it is no event word: raised by `decodeNumber` (safe: the format has 10 bits). -/
  | notAnEventWord (n : Nat)
  deriving DecidableEq, Repr

/-- The instruction a number stands for, or the reason it stands for none. -/
def decodeNumber (n : Nat) : Except DecodeError Instr :=
  if n < 1024 then .ok (decode (BitVec.ofNat 10 n)) else .error (.notAnEventWord n)

/-- The host's view of the decoder. An event is one word of 10 bits, so the row's `nbits` adds nothing to `w`. -/
def decodeTableWord (_nbits w : Nat) : Option Instr :=
  match decodeNumber w with
  | .ok i => some i
  | .error _ => none

/-- The word of `kind` and `arg` (R70). -/
def eventWord (kind : EventKind) (arg : Byte) : EventWord :=
  match kind with
  | .char => 0#2 ++ arg
  | .txdone => 1#2 ++ arg
  | .rxdone => 2#2 ++ arg
  | .tick => 3#2 ++ arg

/-- The word of an instruction, canonical where `arg` is ignored (R70, R72, R73). -/
def encode : Instr → EventWord
  | .digit d => eventWord .char (0x3#4 ++ d)
  | .push => eventWord .char 0x2C
  | .cmdS => eventWord .char 0x73
  | .cmdN => eventWord .char 0x6E
  | .cmdX => eventWord .char 0x78
  | .cmdV => eventWord .char 0x76
  | .cmdH => eventWord .char 0x68
  | .cmdLowerNop c => eventWord .char c
  | .charOther c => eventWord .char c
  | .charBlank c => eventWord .char c
  | .evTxdone => eventWord .txdone 0
  | .evRxdone size => eventWord .rxdone size
  | .evTick => eventWord .tick 0

end Sys2Proof
end

