-- ==== Sys2Proof/Config.lean ====
section
/-!
DEFINITION. What is fixed for a run (spec/00_scope.md R8 to R12): the constants the spec gives a value, the
parameters it decides with their defaults, the OPEN ones without a value, and the free values.
-/

namespace Sys2Proof

/-- The device's role (R11, R19; decision D5). -/
inductive Role where
  | gateway
  | node
  deriving DecidableEq, Repr

/-- What becomes of a request found armed while the link is transmitting
(spec/43_scheduler.md R143; decision D7). -/
inductive SendWhileTx where
  | defer
  | drop
  | reissue
  deriving DecidableEq, Repr

/-- The parameters of R10 and R11 that some rule's outcome depends on. The machine carries them in its state and no
step writes them, so a claim about every state is a claim about every choice of them (log 4). -/
structure Params where
  /-- `ROLE` -/
  role : Role
  /-- `SEND_WHILE_TX` -/
  sendWhileTx : SendWhileTx
  /-- `BODY_FROM_STACK` (decision D8) -/
  bodyFromStack : Bool
  /-- `DISPFMT_RESET` (decision D13) -/
  dispFmtReset : Word16
  /-- `BOOT_LOAD_BEFORE_INIT` (decision D16) -/
  bootLoadBeforeInit : Bool
  /-- `OTHER_CLEARS` (decision D4) -/
  otherClears : Bool
  /-- `TX_LEN` (decision D9): entry `p` is the length sent for `plen = p`; a `plen` the table does not reach has the
  default length `1 + plen`, so the empty table is the spec's default (log 6). -/
  txLen : List Nat
  /-- `NV_NODEID_ADDR` -/
  nvNodeIdAddr : Nat
  /-- `CHANNEL_FREQ` -/
  channelFreq : Nat
  deriving DecidableEq, Repr

namespace Config

/-- `PAYLOAD_MAX` (R8). -/
abbrev payloadMax : Nat := 10

/-- `BODY_MAX`, derived as R9 asks. -/
abbrev bodyMax : Nat := payloadMax - 1

/-- `STACK_EXTRA` (R8). -/
abbrev stackExtra : Nat := 4

/-- `STACK_CAP`, derived as R9 asks: 14 (R8; spec/90_conflicts.md C8). -/
abbrev stackCap : Nat := payloadMax + stackExtra

/-- `NODEID_MASK` (R8). -/
def nodeIdMask : Word16 := 0x3F

/-- `NODEID_MIN` (R8). -/
def nodeIdMin : Nat := 1

/-- `NODEID_MAX` (R8). -/
def nodeIdMax : Nat := 7

/-- `NODEID_DEFAULT` (R8). -/
def nodeIdDefault : Byte := 1

/-- `FMT_DEC` (R8). -/
def fmtDec : Word16 := 0

/-- `FMT_HEX` (R8). -/
def fmtHex : Word16 := 1

/-- `FMT_HEXASCII` (R8). -/
def fmtHexAscii : Word16 := 2

/-- `RADIX` (R8). -/
def radix : Nat := 10

/-- `NV_NODEID_ADDR`: OPEN, "a fixed storage offset" without a value (R10, N11, decision D23; log 5). -/
opaque nvNodeIdAddr : Nat

/-- `CHANNEL_FREQ`: OPEN, "a fixed channel frequency" without a value (R10, N11; log 5). -/
opaque channelFreq : Nat

/-- `IDENT_STRING`: OPEN (R10; log 18). -/
opaque identString : List Byte

/-- `HELP_TEXT` with the node id in it: OPEN (R10, spec/60_exceptions.md R160; log 18). -/
opaque helpText : Byte → List Byte

/-- `RX_ERROR_MARKER`: OPEN (R10; log 18). -/
opaque rxErrorMarker : List Byte

/-- `TXDONE_LOG`: OPEN (R10; log 18). -/
opaque txDoneLog : List Byte

/-- `INIT_FAIL_MSG`: OPEN (R10; log 18). -/
opaque initFailMsg : List Byte

/-- `ECHO_FORMAT`: OPEN (R10, N12; log 18). DESIGN CHOICE: the line is a function of the event's two arguments, so it does
not show the letter that was typed; whether the letter is shown the spec leaves open (spec/41_interp_dispatch.md R101;
log 19). -/
opaque echoFormat : List Byte → Word16 → List Byte

/-- Whether a value below 0x10 is padded to two digits in hex mode: not stated (spec/42_link_mode_fsm.md R131; log 18). -/
opaque hexPadsLowValues : Bool

/-- The text of one byte under a format other than decimal and hex: none given (R131, U3, U14; log 18). -/
opaque otherFormatText : Word16 → Byte → List Byte

/-- What separates the bytes of a report in hex mode: not stated (R131; log 18). -/
opaque hexSeparator : List Byte

/-- How the line of a report ends in decimal mode and in hex mode: not stated (R131; log 18). -/
opaque reportEnd : Word16 → List Byte

/-- The line of a report under a format other than decimal and hex, made from the texts of its bytes: none given
(R131, U3, U14; log 18). -/
opaque otherFormatLine : Word16 → List (List Byte) → List Byte

/-- The `n`-th free byte drawn in a run: any byte (spec/10_state.md R41, U2; log 7, log 8). -/
opaque freeByte : Nat → Byte

end Config

/-- The defaults of R11, with the OPEN values left open. -/
def Params.default : Params where
  role := .gateway
  sendWhileTx := .defer
  bodyFromStack := false
  dispFmtReset := Config.fmtDec
  bootLoadBeforeInit := true
  otherClears := true
  txLen := []
  nvNodeIdAddr := Config.nvNodeIdAddr
  channelFreq := Config.channelFreq

end Sys2Proof
end

