-- ==== Sys2Proof/Machine/State.lean ====
section
/-!
DEFINITION. The state of the block and of what the spec tells a model to keep in its environment
(spec/10_state.md), its value right after reset, and the reasons a step can stop.
-/

namespace Sys2Proof.Machine

/-- The link-mode FSM's two states (R33, spec/42_link_mode_fsm.md R120). -/
inductive Mode where
  | receiving
  | transmitting
  deriving DecidableEq, Repr

/-- The phase of the device (R37). -/
inductive Run where
  | booting
  | running
  | halted
  deriving DecidableEq, Repr

/-- An output event (spec/00_scope.md R16; spec/60_exceptions.md R160, R162, R163). -/
inductive OutEvent where
  /-- `Con.Echo(list, v)` -/
  | conEcho (list : List Byte) (v : Word16)
  /-- `Con.Ident` -/
  | conIdent
  /-- `Con.Help(id)` -/
  | conHelp (id : Byte)
  /-- `Con.TxDoneLog` -/
  | conTxDoneLog
  /-- `Con.RxReport(fmt, list)` -/
  | conRxReport (fmt : Word16) (list : List Byte)
  /-- `Con.RxError` -/
  | conRxError
  /-- `Con.InitFail` -/
  | conInitFail
  /-- `Xcvr.Init(freq)` -/
  | xcvrInit (freq : Nat)
  /-- `Xcvr.SetInvert(b)` -/
  | xcvrSetInvert (b : Bool)
  /-- `Xcvr.Idle` -/
  | xcvrIdle
  /-- `Xcvr.RxContinuous` -/
  | xcvrRxContinuous
  /-- `Xcvr.Transmit(list, n)` -/
  | xcvrTransmit (list : List Byte) (n : Nat)
  /-- `Nv.Write(addr, v)` -/
  | nvWrite (addr : Nat) (v : Byte)
  deriving DecidableEq, Repr

/-- What the environment presents next (R27, R39, R40; spec/60_exceptions.md R157; log 1). -/
inductive Stimulus where
  /-- An event word; with an RXDONE word come the bytes of its packet (spec/30_encoding.md R71). -/
  | event (word : EventWord) (rx : List Byte)
  /-- The console becomes ready and boot runs on (spec/70_reset_and_hazards.md R171): the transceiver's answer to
  `Xcvr.Init` (R174), and the byte the persistent store returns if nothing known was ever written there (U10; log 9). -/
  | consoleReady (initOk : Bool) (storeByte : Byte)
  /-- Application of power, or a power cycle (R170). -/
  | powerCycle
  deriving DecidableEq, Repr

/-- A byte store: (address, byte) cells with addresses strictly rising (`Memory.wf`). An address that is not listed has
no known byte. -/
abbrev Memory := List Host.Cell

/-- The state: the tuple of R20, then what the spec puts in the environment (R27, R39, R40), then the parameters, then
the model's own counter of free values. -/
structure State where
  /-- the accumulator (R21) -/
  cv : Word16
  /-- the argument stack's storage (R22) -/
  stk : Vector Byte Config.stackCap
  /-- the count of valid stack entries (R23) -/
  top : BitVec 8
  /-- a send request is outstanding (R29) -/
  armed : Bool
  /-- the request's destination (R30) -/
  pdest : Byte
  /-- the request's length, the count of body bytes (R31) -/
  plen : BitVec 8
  /-- the node id, six bits held in a byte (R35) -/
  nodeId : Byte
  /-- the display format (R36) -/
  dispFmt : Word16
  /-- the link mode (R33) -/
  mode : Mode
  /-- the signal-inversion flag (R34) -/
  inv : Bool
  /-- the transmit payload buffer `TXB`, addresses 0..9 (R38, spec/20_memory.md R54) -/
  txb : Memory
  /-- the phase of the device (R37) -/
  run : Run
  /-- the persistent byte store `NV` (spec/20_memory.md R51) -/
  nv : Memory
  /-- `RXB`: the bytes of the announced packet not yet drained (spec/20_memory.md R55, R58) -/
  rxb : List Byte
  /-- a transmission is in flight inside the transceiver (R39) -/
  txInFlight : Bool
  /-- the output trace `out` (spec/00_scope.md R16) -/
  out : List OutEvent
  /-- what the environment presents, the next first (R27) -/
  pending : List Stimulus
  /-- the parameters (spec/00_scope.md R10, R11) -/
  cfg : Params
  /-- the MODEL's own: how many free values were drawn (log 7) -/
  draws : Nat
  deriving DecidableEq, Repr

/-- Why the machine stops with a fault. -/
inductive Fault where
  /-- `TxLengthViolation(n)`: raised by `Send` in an `EV_TICK` step when the length `n` is above `PAYLOAD_MAX`
  (spec/42_link_mode_fsm.md R126). Safe: the spec gives such a step no effect and forbids giving it a value (log 14). -/
  | txLengthViolation (n : Nat)
  deriving DecidableEq, Repr

/-- Why the model has no meaning for a step. -/
inductive Refusal where
  /-- An instruction without a meaning in this model: raised by `exec` alone. Safe. No arm raises it. -/
  | notModelled (mnemonic : String)
  deriving DecidableEq, Repr

/-- Right after reset, which is the application of power (spec/70_reset_and_hazards.md R170): the phase is `Booting`,
nothing has been presented or emitted, and no stored byte is known. Before boot ends every register is unspecified
(R41); each stands here at the value a boot with the default parameters leaves (log 2), and those that boot leaves
unspecified at zero (log 10). -/
def State.reset : State where
  cv := 0
  stk := Vector.replicate Config.stackCap 0
  top := 0
  armed := false
  pdest := 0
  plen := 0
  nodeId := Config.nodeIdDefault
  dispFmt := Config.fmtDec
  mode := .receiving
  inv := false
  txb := []
  run := .booting
  nv := []
  rxb := []
  txInFlight := false
  out := []
  pending := []
  cfg := Params.default
  draws := 0

end Sys2Proof.Machine
end

