-- ==== Sys2Proof/Machine/Operands.lean ====
section
/-!
DEFINITION. Operands and the byte stores they come from: narrowing (spec/20_memory.md R56), the two immediates
(spec/30_encoding.md R75), the implicit operands (R76), the cells of a store, and the output trace.
-/

namespace Sys2Proof.Machine

/-- `v[7:0]`: narrowing keeps the low-order bits (R56). -/
def lowByte (v : Word16) : Byte := v.setWidth 8

/-- The digit value, zero-extended to 16 bits (R75). -/
def digitOperand (d : BitVec 4) : Word16 := d.setWidth 16

/-- The packet size, unsigned and not scaled (R75). -/
def sizeOperand (size : Byte) : Nat := size.toNat

/-- `stk[0], ..., stk[top-1]` in push order (spec/10_state.md R22, R24). -/
def stackBytes (s : State) : List Byte := s.stk.toList.take s.top.toNat

/-- The length the main loop passes to `Send`: `TX_LEN(plen)`, by default `1 + plen` (spec/43_scheduler.md R142,
decision D9; log 6). -/
def sendLength (s : State) : Nat := s.cfg.txLen.getD s.plen.toNat (1 + s.plen.toNat)

/-- The byte at an address, if one is known. -/
def Memory.read : Memory → Nat → Option Byte
  | [], _ => none
  | (k, b) :: m, a => if k = a then some b else Memory.read m a

/-- The store with byte `v` at address `a`; the cells stay in strictly rising order. -/
def Memory.write : Memory → Nat → Byte → Memory
  | [], a, v => [(a, v)]
  | (k, b) :: m, a, v =>
    if a < k then (a, v) :: (k, b) :: m
    else if a = k then (a, v) :: m
    else (k, b) :: Memory.write m a v

/-- The store with the bytes of a list at successive addresses from `a`. -/
def Memory.writeList : Memory → Nat → List Byte → Memory
  | m, _, [] => m
  | m, a, v :: vs => Memory.writeList (Memory.write m a v) (a + 1) vs

/-- The canonical form: addresses strictly rising. An unlisted address has no known byte, so no entry can repeat what an
unlisted address reads as. -/
abbrev Memory.wf (m : Memory) : Prop := (m.map Prod.fst).Pairwise (· < ·)

/-- `emit E`: append an event to the output trace (spec/00_scope.md R16). -/
def emit (e : OutEvent) (s : State) : State := { s with out := s.out ++ [e] }

end Sys2Proof.Machine
end

