-- ==== Sys2Proof/Machine/Flags.lean ====
section
/-!
DEFINITION. The block's three flags `armed`, `mode` and `inv` (spec/10_state.md R28): there are no condition codes. The
polarity of `inv` by role, the two flag writes of the link, and the test a TICK makes.
-/

namespace Sys2Proof.Machine

/-- `rxInv(ROLE)` (spec/00_scope.md R12). -/
def rxInv : Role → Bool
  | .gateway => false
  | .node => true

/-- `txInv(ROLE)` (R12). -/
def txInv : Role → Bool
  | .gateway => true
  | .node => false

/-- The inversion that goes with a mode (spec/10_state.md R34). -/
def modeInv (r : Role) : Mode → Bool
  | .receiving => rxInv r
  | .transmitting => txInv r

/-- `inv <- b`, reported to the transceiver (R34). -/
def setInvert (b : Bool) (s : State) : State := emit (.xcvrSetInvert b) { s with inv := b }

/-- `mode <- m` (R33). -/
def setMode (m : Mode) (s : State) : State := { s with mode := m }

/-- What a TICK does, by the request, the mode and the policy (spec/43_scheduler.md R141, R143). -/
inductive TickAction where
  /-- branch 2: `TickSend` -/
  | send
  /-- `Drop` while transmitting: `armed <- 0` alone -/
  | discard
  /-- branch 3: `TickIdle` -/
  | idle
  deriving DecidableEq, Repr

/-- `armed = 1 and SendAllowed`, with `Drop`'s exception (R141, R143). -/
def tickAction (s : State) : TickAction :=
  if s.armed then
    match s.mode, s.cfg.sendWhileTx with
    | .receiving, _ => .send
    | .transmitting, .defer => .idle
    | .transmitting, .drop => .discard
    | .transmitting, .reissue => .send
  else .idle

end Sys2Proof.Machine
end

