-- ==== Sys2Proof/Machine/Ops.lean ====
section
/-!
DEFINITION. The operations the instructions share: the interpreter's (spec/40_interp_accumulate.md,
spec/41_interp_dispatch.md), the link's (spec/42_link_mode_fsm.md), the persistent store's, and boot
(spec/70_reset_and_hazards.md). There is no exception to take and none to return from (spec/60_exceptions.md R150,
R154, R155): a notification is one step with nothing saved, entered through `deliver`.
-/

namespace Sys2Proof.Machine

/-- An event has its effect only while `Running`; in `Booting` none is accepted and in `Halted` each is consumed with no
effect (spec/40_interp_accumulate.md R90, spec/42_link_mode_fsm.md R127 case c, spec/70_reset_and_hazards.md R176,
R177). -/
def whenRunning (s : State) (effect : Host.Outcome State Fault Refusal) : Host.Outcome State Fault Refusal :=
  match s.run with
  | .running => effect
  | .booting => .next s
  | .halted => .next s

/-- `cv <- (cv * 10 + d) mod 65536` (R91). -/
def accumulate (d : BitVec 4) (s : State) : State :=
  { s with cv := s.cv * BitVec.ofNat 16 Config.radix + digitOperand d }

/-- The guarded push and the clearing of `cv` (R93). -/
def pushValue (s : State) : State :=
  if s.top.toNat < Config.stackCap then
    { s with stk := s.stk.setIfInBounds s.top.toNat (lowByte s.cv), top := s.top + 1, cv := 0 }
  else
    { s with cv := 0 }

/-- `DebugEcho` (spec/41_interp_dispatch.md R101). -/
def debugEcho (s : State) : State := emit (.conEcho (stackBytes s) s.cv) s

/-- `ClearAcc` (R102). -/
def clearAcc (s : State) : State := { s with cv := 0, top := 0 }

/-- Phase 2 of `CMD_S` (R104). -/
def armRequest (s : State) : State :=
  { s with
    armed := true
    pdest := lowByte s.cv
    plen := s.top
    txb := if s.cfg.bodyFromStack then Memory.writeList s.txb 1 ((stackBytes s).take Config.bodyMax) else s.txb }

/-- `MemWrite(NV_NODEID_ADDR, 1, v)`, recorded in `out` (spec/00_scope.md R15, R16). -/
def memWriteNodeId (v : Byte) (s : State) : State :=
  emit (.nvWrite s.cfg.nvNodeIdAddr v) { s with nv := Memory.write s.nv s.cfg.nvNodeIdAddr v }

/-- Phase 2 of `CMD_N` (R105). -/
def setNodeId (s : State) : State :=
  let v := lowByte (s.cv &&& Config.nodeIdMask)
  memWriteNodeId v { s with nodeId := v }

/-- Phase 2 of `CMD_X` (R106). -/
def setDisplayFormat (s : State) : State := { s with dispFmt := s.cv }

/-- `EnterReceiveMode` (spec/42_link_mode_fsm.md R121). -/
def enterReceiveMode (s : State) : State :=
  setMode .receiving (emit .xcvrRxContinuous (setInvert (rxInv s.cfg.role) s))

/-- `EnterTransmitMode` (R122). -/
def enterTransmitMode (s : State) : State :=
  setMode .transmitting (setInvert (txInv s.cfg.role) (emit .xcvrIdle s))

/-- The bytes `txb[0], ..., txb[n-1]` as `Send` reads them, in index order: a byte some rule wrote reads as written, any
other is drawn anew at each read (R125, spec/10_state.md R38, R41; log 7). -/
def payloadBytes (n : Nat) (s : State) : List Byte :=
  (List.range n).map fun i => (Memory.read s.txb i).getD (Config.freeByte (s.draws + i))

/-- The transceiver takes over `n` bytes of `txb`; a transmission is then in flight (R125, spec/10_state.md R39). -/
def transmit (n : Nat) (s : State) : State :=
  emit (.xcvrTransmit (payloadBytes n s) n) { s with txInFlight := true, draws := s.draws + n }

/-- `Send(n)` (R125), with the fault of R126 where the length is above the bound. -/
def send (n : Nat) (s : State) : Host.Outcome State Fault Refusal :=
  let t := enterTransmitMode s
  if n > Config.payloadMax then .fault (.txLengthViolation n) else .next (transmit n t)

/-- `TickSend` (spec/43_scheduler.md R142). -/
def tickSend (s : State) : Host.Outcome State Fault Refusal :=
  send (sendLength s) { s with armed := false, txb := Memory.write s.txb 0 s.pdest }

/-- `TickIdle` (R144). -/
def tickIdle (s : State) : State := s

/-- The first `n` bytes of the transceiver's buffer, read and drained. The environment owes them (spec/60_exceptions.md
R157); where it has not supplied one, the byte read is a free value (log 8). -/
def receivedBytes (n : Nat) (s : State) : List Byte :=
  s.rxb.take n ++ (List.range (n - s.rxb.length)).map fun i => Config.freeByte (s.draws + i)

/-- Reading byte `i` drains it, and each is read once (spec/20_memory.md R55, R58). -/
def drainRx (n : Nat) (s : State) : State :=
  { s with rxb := s.rxb.drop n, draws := s.draws + (n - s.rxb.length) }

/-- The report of a packet that is not oversized (spec/42_link_mode_fsm.md R130). -/
def reportPacket (n : Nat) (s : State) : State :=
  drainRx n (emit (.conRxReport s.dispFmt (receivedBytes n s)) s)

/-- `MemRead(NV_NODEID_ADDR, 1)`: the known byte, else the environment's answer (spec/00_scope.md R15, U10; log 9). -/
def memReadNodeId (storeByte : Byte) (s : State) : Byte :=
  (Memory.read s.nv s.cfg.nvNodeIdAddr).getD storeByte

/-- A byte the store was found to hold is known from then on: the store keeps it (spec/20_memory.md R58; log 9). -/
def noteStored (v : Byte) (s : State) : State := { s with nv := Memory.write s.nv s.cfg.nvNodeIdAddr v }

/-- `ConfigLoad` (spec/70_reset_and_hazards.md R173). -/
def configLoad (storeByte : Byte) (s : State) : State :=
  let v := memReadNodeId storeByte s
  if v.toNat < Config.nodeIdMin ∨ v.toNat > Config.nodeIdMax then
    memWriteNodeId Config.nodeIdDefault { s with nodeId := Config.nodeIdDefault }
  else
    noteStored v { s with nodeId := v }

/-- The clearings at the head of the boot procedure (R172). -/
def clearAtBoot (s : State) : State :=
  { s with cv := 0, top := 0, armed := false, dispFmt := s.cfg.dispFmtReset }

/-- `Xcvr.Init(CHANNEL_FREQ)` is commanded (R174); a transmission in flight is abandoned (R180). -/
def initTransceiver (s : State) : State :=
  emit (.xcvrInit s.cfg.channelFreq) { s with txInFlight := false }

/-- Initialisation failed: one report, then `Halted` (R175). -/
def haltAfterInitFailure (s : State) : State :=
  { emit .conInitFail s with run := .halted }

/-- The end of a successful boot (R178). -/
def startRunning (s : State) : State := { enterReceiveMode s with run := .running }

/-- The boot procedure from the moment the console is ready, with the transceiver's answer and the store's (R170,
decision D16). -/
def bootProcedure (initOk : Bool) (storeByte : Byte) (s : State) : State :=
  let cleared := clearAtBoot s
  let started := initTransceiver (if s.cfg.bootLoadBeforeInit then configLoad storeByte cleared else cleared)
  if initOk then
    startRunning (if s.cfg.bootLoadBeforeInit then started else configLoad storeByte started)
  else
    haltAfterInitFailure started

/-- The console is ready: boot runs on if the block was waiting for it, and nothing happens otherwise (R171). -/
def consoleReady (initOk : Bool) (storeByte : Byte) (s : State) : State :=
  match s.run with
  | .booting => bootProcedure initOk storeByte s
  | .running => s
  | .halted => s

/-- A power cycle: everything is as right after reset but the persistent store (R180); the trace, what the environment
will present and the parameters are not the block's (spec/10_state.md R40; log 11). -/
def powerOn (s : State) : State :=
  { State.reset with
    nv := s.nv
    out := s.out
    pending := s.pending
    cfg := s.cfg
    draws := s.draws }

/-- The environment's side of an event's delivery: RXDONE brings its packet's bytes (spec/30_encoding.md R71), TXDONE
ends the transmission in flight (spec/10_state.md R39). -/
def deliver (kind : EventKind) (rx : List Byte) (s : State) : State :=
  match kind with
  | .char => s
  | .txdone => { s with txInFlight := false }
  | .rxdone => { s with rxb := rx }
  | .tick => s

end Sys2Proof.Machine
end

