-- ==== Sys2Proof/Machine/Accumulate.lean ====
section
/-!
DEFINITION. The accumulate family: DIGIT and PUSH (spec/40_interp_accumulate.md).
-/

namespace Sys2Proof.Machine

/-- `DIGIT` (R91). -/
def execDigit (d : BitVec 4) (s : State) : Host.Outcome State Fault Refusal :=
  whenRunning s (.next (accumulate d s))

/-- `PUSH` (R93). -/
def execPush (s : State) : Host.Outcome State Fault Refusal :=
  whenRunning s (.next (pushValue s))

end Sys2Proof.Machine
end

