-- ==== Sys2Proof/Machine/Commands.lean ====
section
/-!
DEFINITION. The dispatch family: the five commands and the three classes that command nothing
(spec/41_interp_dispatch.md). Each runs the phases of R100 in order: echo if lowercase, its command, the clearing.
-/

namespace Sys2Proof.Machine

/-- `CMD_S` (R104). -/
def execCmdS (s : State) : Host.Outcome State Fault Refusal :=
  whenRunning s (.next (clearAcc (armRequest (debugEcho s))))

/-- `CMD_N` (R105). -/
def execCmdN (s : State) : Host.Outcome State Fault Refusal :=
  whenRunning s (.next (clearAcc (setNodeId (debugEcho s))))

/-- `CMD_X` (R106). -/
def execCmdX (s : State) : Host.Outcome State Fault Refusal :=
  whenRunning s (.next (clearAcc (setDisplayFormat (debugEcho s))))

/-- `CMD_V` (R107). -/
def execCmdV (s : State) : Host.Outcome State Fault Refusal :=
  whenRunning s (.next (clearAcc (emit .conIdent (debugEcho s))))

/-- `CMD_H` (R108). -/
def execCmdH (s : State) : Host.Outcome State Fault Refusal :=
  whenRunning s (.next (clearAcc (emit (.conHelp s.nodeId) (debugEcho s))))

/-- `CMD_LOWER_NOP` (R109); which letter it is does not matter. -/
def execCmdLowerNop (_c : Byte) (s : State) : Host.Outcome State Fault Refusal :=
  whenRunning s (.next (clearAcc (debugEcho s)))

/-- `CHAR_OTHER` (R110), with the parameter `OTHER_CLEARS` (spec/00_scope.md R11). -/
def execCharOther (_c : Byte) (s : State) : Host.Outcome State Fault Refusal :=
  whenRunning s (.next (if s.cfg.otherClears then clearAcc s else s))

/-- `CHAR_BLANK` (R111). -/
def execCharBlank (_c : Byte) (s : State) : Host.Outcome State Fault Refusal :=
  whenRunning s (.next (clearAcc s))

end Sys2Proof.Machine
end

