-- ==== Sys2Proof/Machine/Link.lean ====
section
/-!
DEFINITION. The link's two notifications (spec/42_link_mode_fsm.md).
-/

namespace Sys2Proof.Machine

/-- `EV_TXDONE` (R127). -/
def execEvTxdone (s : State) : Host.Outcome State Fault Refusal :=
  whenRunning s (.next (enterReceiveMode (emit .conTxDoneLog s)))

/-- `EV_RXDONE` (R130). -/
def execEvRxdone (size : Byte) (s : State) : Host.Outcome State Fault Refusal :=
  whenRunning s
    (.next
      (if sizeOperand size > Config.payloadMax then emit .conRxError s
       else reportPacket (sizeOperand size) s))

end Sys2Proof.Machine
end

