-- ==== Sys2Proof/Machine/Scheduler.lean ====
section
/-!
DEFINITION. The main-loop iteration with no character pending (spec/43_scheduler.md).
-/

namespace Sys2Proof.Machine

/-- `EV_TICK` (R141, R143). -/
def execEvTick (s : State) : Host.Outcome State Fault Refusal :=
  whenRunning s
    (match tickAction s with
     | .send => tickSend s
     | .discard => .next { s with armed := false }
     | .idle => .next (tickIdle s))

end Sys2Proof.Machine
end

