-- ==== Sys2Proof/Machine/Dispatch.lean ====
section
/-! DEFINITION. One arm per instruction, each one call of its meaning. -/

namespace Sys2Proof.Machine

/-- The meaning of an instruction. -/
def exec (i : Instr) (s : State) : Host.Outcome State Fault Refusal :=
  match i with
  | .digit d => Sys2Proof.Machine.execDigit d s
  | .push => Sys2Proof.Machine.execPush s
  | .cmdS => Sys2Proof.Machine.execCmdS s
  | .cmdN => Sys2Proof.Machine.execCmdN s
  | .cmdX => Sys2Proof.Machine.execCmdX s
  | .cmdV => Sys2Proof.Machine.execCmdV s
  | .cmdH => Sys2Proof.Machine.execCmdH s
  | .cmdLowerNop c => Sys2Proof.Machine.execCmdLowerNop c s
  | .charOther c => Sys2Proof.Machine.execCharOther c s
  | .charBlank c => Sys2Proof.Machine.execCharBlank c s
  | .evTxdone => Sys2Proof.Machine.execEvTxdone s
  | .evRxdone size => Sys2Proof.Machine.execEvRxdone size s
  | .evTick => Sys2Proof.Machine.execEvTick s

end Sys2Proof.Machine
end

