-- ==== Sys2Proof/Machine/Fetch.lean ====
section
/-!
DEFINITION. Placing an event for the next step (log 3): what `State.withFetchWord` is made of.
-/

namespace Sys2Proof.Machine

/-- The bytes the environment owes with an instruction (spec/60_exceptions.md R157): the packet of an RXDONE, here all
zero, and nothing for any other. -/
def owedBytes (i : Instr) : List Byte :=
  match i.kind with
  | .rxdone => List.replicate (wordArg (encode i)).toNat 0
  | .char => []
  | .txdone => []
  | .tick => []

/-- A block that waits in `Booting` is taken through boot with a transceiver that initialises and a store that holds 1,
the start state of spec/95_test_vectors.md. -/
def bootedForEvent (s : State) : State := consoleReady true Config.nodeIdDefault s

/-- The environment presents this event next. -/
def present (word : EventWord) (rx : List Byte) (s : State) : State :=
  { s with pending := .event word rx :: s.pending }

end Sys2Proof.Machine
end

