-- ==== Sys2Proof/Machine/Step.lean ====
section
/-!
DEFINITION. One step of the machine: the environment's next stimulus is consumed whole (spec/00_scope.md R18).
-/

namespace Sys2Proof.Machine

/-- A step consumes the next stimulus. With nothing presented the block waits and nothing changes (log 1). -/
def step (s : State) : Host.Outcome State Fault Refusal :=
  match s.pending with
  | [] => .next s
  | .event word rx :: rest => exec (decode word) (deliver (decode word).kind rx { s with pending := rest })
  | .consoleReady initOk storeByte :: rest => .next (consoleReady initOk storeByte { s with pending := rest })
  | .powerCycle :: rest => .next (powerOn { s with pending := rest })

/-- `s` with one event placed so that the next step consumes it; a block still waiting in `Booting` is first taken
through a successful boot (log 3). A number that is no event word places nothing. -/
def State.withFetchWord (s : State) (_nbits w : Nat) : State :=
  match decodeNumber w with
  | .error _ => s
  | .ok i => present (BitVec.ofNat 10 w) (owedBytes i) (bootedForEvent s)

end Sys2Proof.Machine
end

