-- ==== Sys2Proof/Machine/Console.lean ====
section
/-!
DEFINITION. What the spec fixes of the text of console events (spec/42_link_mode_fsm.md R131,
spec/60_exceptions.md R160). The trace holds events, not text, and no instruction reads this file; every part of a text
the sources do not give is an opaque constant of Config (log 18).
-/

namespace Sys2Proof.Machine

/-- The character of a decimal or uppercase hexadecimal digit (ASCII: spec/93_implementation_defined.md K1). -/
def digitChar (n : Nat) : Byte := BitVec.ofNat 8 (if n < 10 then 0x30 + n else 0x37 + n)

/-- A byte in decimal, without leading zeros. -/
def decimalText (b : Byte) : List Byte :=
  let n := b.toNat
  if n < 10 then [digitChar n]
  else if n < 100 then [digitChar (n / 10), digitChar (n % 10)]
  else [digitChar (n / 100), digitChar (n / 10 % 10), digitChar (n % 10)]

/-- A byte in hexadecimal with uppercase digits; whether a value below 0x10 has a leading zero is not stated (R131). -/
def hexText (b : Byte) : List Byte :=
  let n := b.toNat
  if 0x10 ≤ n ∨ Config.hexPadsLowValues then [digitChar (n / 16), digitChar (n % 16)] else [digitChar n]

/-- The text of one received byte under a format (R131). -/
def byteText (fmt : Word16) (b : Byte) : List Byte :=
  if fmt = Config.fmtDec then 0x20 :: decimalText b
  else if fmt = Config.fmtHex then hexText b
  else Config.otherFormatText fmt b

/-- The line of a receive report (R131). DEDUCED (log 18): nothing stands before the first byte, and the line is in decimal
mode the bytes' texts one after another, each with its own leading space, in hex mode the bytes' texts with the separator
between neighbours and no leading space. The sources leave open the padding and the separator in hex mode, the line end,
and every other format. -/
def reportText (fmt : Word16) (bytes : List Byte) : List Byte :=
  if fmt = Config.fmtDec then bytes.flatMap (byteText fmt) ++ Config.reportEnd fmt
  else if fmt = Config.fmtHex then Config.hexSeparator.intercalate (bytes.map (byteText fmt)) ++ Config.reportEnd fmt
  else Config.otherFormatLine fmt (bytes.map (byteText fmt))

/-- The text an output event puts on the console, if it is a console event (R160). -/
def consoleText : OutEvent → Option (List Byte)
  | .conEcho list v => some (Config.echoFormat list v)
  | .conIdent => some Config.identString
  | .conHelp id => some (Config.helpText id)
  | .conTxDoneLog => some Config.txDoneLog
  | .conRxReport fmt list => some (reportText fmt list)
  | .conRxError => some Config.rxErrorMarker
  | .conInitFail => some Config.initFailMsg
  | .xcvrInit _ => none
  | .xcvrSetInvert _ => none
  | .xcvrIdle => none
  | .xcvrRxContinuous => none
  | .xcvrTransmit _ _ => none
  | .nvWrite _ _ => none

/-- Everything the console has shown: the texts of the console events, in order (R160). -/
def consoleOutput (s : State) : List Byte := (s.out.filterMap consoleText).flatten

end Sys2Proof.Machine
end

