-- ==== Sys2Proof/Safety.lean ====
section
/-!
DEFINITION. The terms claims are stated in: the invariants of spec/10_state.md R43, the laws of the output trace, what
the environment is assumed not to do, and the effect of a string of characters.
-/

namespace Sys2Proof.Safety

open Sys2Proof.Machine

/-- The relations R43 (a) to (d) put on the block's registers. -/
structure BlockInv (s : State) : Prop where
  /-- (a) `top <= STACK_CAP` (R23) -/
  top_le : s.top.toNat ≤ Config.stackCap
  /-- (b) `nodeId <= 63` (R35) -/
  nodeId_le : s.nodeId.toNat ≤ 63
  /-- (c) an armed request's `plen` is at most `STACK_CAP` (R31) -/
  plen_le : s.armed = true → s.plen.toNat ≤ Config.stackCap
  /-- (d) while `Running` the inversion is the mode's (R34) -/
  inv_eq : s.run = .running → s.inv = modeInv s.cfg.role s.mode

/-- The stores are in canonical form and `TXB` has no byte beyond index 9 (spec/20_memory.md R54). -/
structure StoreInv (s : State) : Prop where
  nv_wf : Memory.wf s.nv
  txb_wf : Memory.wf s.txb
  txb_lt : ∀ c ∈ s.txb, c.1 < Config.payloadMax

/-- The invariant of the machine. -/
def Inv (s : State) : Prop := BlockInv s ∧ StoreInv s

/-- The bounds on an output event: a transmission carries 1 to 10 bytes and its length (spec/60_exceptions.md R162), a
report at most 10 bytes (spec/42_link_mode_fsm.md R130), an echo at most 14, and a node id shown or stored is at most
63 (spec/41_interp_dispatch.md R105). -/
def legalEvent : OutEvent → Prop
  | .xcvrTransmit list n => 1 ≤ n ∧ n ≤ Config.payloadMax ∧ list.length = n
  | .conRxReport _ list => list.length ≤ Config.payloadMax
  | .conEcho list _ => list.length ≤ Config.stackCap
  | .conHelp id => id.toNat ≤ 63
  | .nvWrite _ v => v.toNat ≤ 63
  | .conIdent => True
  | .conTxDoneLog => True
  | .conRxError => True
  | .conInitFail => True
  | .xcvrInit _ => True
  | .xcvrSetInvert _ => True
  | .xcvrIdle => True
  | .xcvrRxContinuous => True

/-- Every event of the trace keeps its bounds. -/
def LegalTrace (s : State) : Prop := ∀ e ∈ s.out, legalEvent e

/-- The link as a reader of the trace sees it: `Xcvr.Transmit` and `Con.TxDoneLog` have to take turns, and `none` says
that one came out of turn (spec/42_link_mode_fsm.md R128). -/
def linkAfter : Option Mode → OutEvent → Option Mode
  | some .receiving, .xcvrTransmit _ _ => some .transmitting
  | some .receiving, .conTxDoneLog => none
  | some .transmitting, .xcvrTransmit _ _ => none
  | some .transmitting, .conTxDoneLog => some .receiving
  | m, _ => m

/-- What the whole trace says, `Xcvr.Transmit` being first (R128). -/
def linkPhase (out : List OutEvent) : Option Mode := out.foldl linkAfter (some .receiving)

/-- The trace alternates, the mode is the one it ends in, and a transmission is in flight exactly while the block
transmits. -/
structure LinkInv (s : State) : Prop where
  running : s.run = .running
  phase : linkPhase s.out = some s.mode
  inFlight : s.txInFlight = true ↔ s.mode = .transmitting

/-- The next stimulus is one the environment of R128 presents: no TXDONE without a transmission in flight
(spec/60_exceptions.md R157), and no power cycle, which starts another life of the device. -/
structure LawfulNext (s : State) : Prop where
  txdone : ∀ word rx rest, s.pending = .event word rx :: rest → decode word = .evTxdone → s.txInFlight = true
  noPowerCycle : ∀ rest, s.pending ≠ .powerCycle :: rest

/-- The effect of a string of instructions, in order. -/
def execAll : List Instr → State → Host.Outcome State Fault Refusal
  | [], s => .next s
  | i :: is, s =>
    match exec i s with
    | .next t => execAll is t
    | .fault r => .fault r
    | .refused r => .refused r

/-- The word of one main-loop iteration, by the character available to it: input comes before everything else
(spec/43_scheduler.md R140). -/
def iterationWord : Option Byte → EventWord
  | some c => eventWord .char c
  | none => eventWord .tick 0

/-- The decimal number a run of digits spells, most significant first, 0 for the empty run (spec/30_encoding.md R80). -/
def decimalValue (ds : List (BitVec 4)) : Nat := ds.foldl (fun v d => v * 10 + d.toNat) 0

/-- The characters `N1,N2,...,Nk,` as instructions (spec/40_interp_accumulate.md R95). -/
def argumentString (numbers : List (List (BitVec 4))) : List Instr :=
  numbers.flatMap fun ds => ds.map Instr.digit ++ [Instr.push]

/-- An uppercase hexadecimal digit (spec/42_link_mode_fsm.md R131). -/
def isHexDigit (c : Byte) : Bool :=
  (0x30 ≤ c.toNat && c.toNat ≤ 0x39) || (0x41 ≤ c.toNat && c.toNat ≤ 0x46)

/-- The value of an uppercase hexadecimal digit. -/
def hexDigitValue (c : Byte) : Nat := if c.toNat ≤ 0x39 then c.toNat - 0x30 else c.toNat - 0x37

/-- The events a step may add to the trace that are debug echoes (spec/41_interp_dispatch.md R101). -/
def isEcho : OutEvent → Bool
  | .conEcho _ _ => true
  | _ => false

/-- The events that are transmissions (spec/60_exceptions.md R162). -/
def isTransmit : OutEvent → Bool
  | .xcvrTransmit _ _ => true
  | _ => false

end Sys2Proof.Safety
end

