-- ==== Sys2Proof/Certificates/Slice0/Obligations.lean ====
section
/-!
DEFINITION. The statements for the provers. "The known bytes of `txb`" are those some rule wrote; the others are free
values, about which nothing is said.
-/

open Sys2Proof Sys2Proof.Machine Sys2Proof.Safety

/-! Encoding (spec/30_encoding.md) -/

/-- Words of spec/95_test_vectors.md V6 and their instructions. -/
def Obligations.SpecWordsDecode : Prop :=
  decode 0x000 = .charBlank 0x00 ∧ decode 0x020 = .charBlank 0x20 ∧ decode 0x021 = .charOther 0x21 ∧
  decode 0x02C = .push ∧ decode 0x039 = .digit 9 ∧ decode 0x053 = .charOther 0x53 ∧
  decode 0x061 = .cmdLowerNop 0x61 ∧ decode 0x068 = .cmdH ∧ decode 0x06E = .cmdN ∧ decode 0x073 = .cmdS ∧
  decode 0x076 = .cmdV ∧ decode 0x078 = .cmdX ∧ decode 0x07A = .cmdLowerNop 0x7A ∧
  decode 0x07B = .charOther 0x7B ∧ decode 0x0FF = .charOther 0xFF ∧ decode 0x1A5 = .evTxdone ∧
  decode 0x2FF = .evRxdone 0xFF ∧ decode 0x3FF = .evTick

/-- No event word is illegal: each is an event of the block (R70, R77). -/
def Obligations.EveryWordIsAnEvent : Prop :=
  ∀ w : EventWord, (decode w).wf = true

/-- The opcode table, tried in order, gives the ten character classes of R73. -/
def Obligations.CharacterClasses : Prop :=
  ∀ c : Byte, decode (0#2 ++ c) =
    if 0x30 ≤ c.toNat ∧ c.toNat ≤ 0x39 then .digit (BitVec.ofNat 4 (c.toNat - 0x30))
    else if c.toNat = 0x2C then .push
    else if c.toNat = 0x73 then .cmdS
    else if c.toNat = 0x6E then .cmdN
    else if c.toNat = 0x78 then .cmdX
    else if c.toNat = 0x76 then .cmdV
    else if c.toNat = 0x68 then .cmdH
    else if 0x61 ≤ c.toNat ∧ c.toNat ≤ 0x7A then .cmdLowerNop c
    else if c.toNat ≤ 0x20 then .charBlank c
    else .charOther c

/-- Decoding an encoded event gives it back, at every operand its class admits. -/
def Obligations.DecodeOfEncode : Prop :=
  ∀ i : Instr, i.wf = true → decode (encode i) = i

/-- Encoding a decoded word gives it back, but for the `arg` that TXDONE and TICK ignore (R70). -/
def Obligations.EncodeOfDecode : Prop :=
  ∀ w : EventWord, encode (decode w) =
    if w.toNat / 256 = 1 then 0x100 else if w.toNat / 256 = 3 then 0x300 else w

/-! The accumulate family (spec/40_interp_accumulate.md) -/

/-- R91: the accumulator takes one decimal digit, modulo 65536, and nothing else changes. -/
def Obligations.DigitAccumulates : Prop :=
  ∀ d : BitVec 4, d.toNat ≤ 9 →
    decode (BitVec.ofNat 10 (0x30 + d.toNat)) = .digit d ∧
    ∀ s : State, s.run = .running →
      exec (.digit d) s = .next { s with cv := BitVec.ofNat 16 ((s.cv.toNat * 10 + d.toNat) % 65536) }

/-- R92 (d): from `cv = 0` a run of digits leaves the decimal number it spells, modulo 65536. -/
def Obligations.DigitRunReadsDecimal : Prop :=
  ∀ (ds : List (BitVec 4)) (s : State), s.run = .running → s.cv = 0 →
    execAll (ds.map Instr.digit) s = .next { s with cv := BitVec.ofNat 16 (decimalValue ds % 65536) }

/-- R93: the low byte of `cv` is pushed unless the stack is full; `cv` is cleared in both cases. -/
def Obligations.PushStoresLowByte : Prop :=
  decode 0x02C = .push ∧
  ∀ s : State, s.run = .running →
    (s.top.toNat < 14 → ∃ stk : Vector Byte 14,
      stk.toList = s.stk.toList.set s.top.toNat (BitVec.ofNat 8 (s.cv.toNat % 256)) ∧
      exec .push s = .next { s with stk := stk, top := BitVec.ofNat 8 (s.top.toNat + 1), cv := 0 }) ∧
    (14 ≤ s.top.toNat → exec .push s = .next { s with cv := 0 })

/-- R95: a list of numbers, each followed by a comma, leaves their low bytes on the stack, at most 14 of them. -/
def Obligations.ArgumentListFillsStack : Prop :=
  ∀ (numbers : List (List (BitVec 4))) (s : State), s.run = .running → s.cv = 0 → s.top = 0 →
    ∃ t : State, execAll (argumentString numbers) s = .next t ∧
      t = { s with stk := t.stk, top := t.top } ∧
      t.top.toNat = min numbers.length 14 ∧
      t.stk.toList.take t.top.toNat =
        (numbers.take 14).map fun ds => BitVec.ofNat 8 (decimalValue ds % 256)

/-! The dispatch family (spec/41_interp_dispatch.md) -/

/-- R104: `s` echoes, arms the request with the low byte of `cv` and the count of pushed bytes, and clears; the payload
body is filled from the stack only under `BODY_FROM_STACK`. The low byte and that parameter are the spec's own
decisions D11 and D8. -/
def Obligations.CommandSArmsRequest : Prop :=
  decode 0x073 = .cmdS ∧
  ∀ s : State, s.run = .running →
    ∃ txb : Memory,
      exec .cmdS s = .next
        { s with
          armed := true, pdest := BitVec.ofNat 8 (s.cv.toNat % 256), plen := s.top, txb := txb, cv := 0, top := 0
          out := s.out ++ [.conEcho (s.stk.toList.take s.top.toNat) s.cv] } ∧
      (s.cfg.bodyFromStack = false → txb = s.txb) ∧
      (s.cfg.bodyFromStack = true → ∀ k : Nat, Memory.read txb k =
        if 1 ≤ k ∧ k ≤ min s.top.toNat 9 then s.stk.toList[k - 1]? else Memory.read s.txb k)

/-- R105: `n` echoes, keeps the low six bits of `cv` as the node id, persists it, and clears. -/
def Obligations.CommandNSetsAndPersistsNodeId : Prop :=
  decode 0x06E = .cmdN ∧
  ∀ s : State, s.run = .running →
    ∃ (id : Byte) (nv : Memory),
      id.toNat = s.cv.toNat % 64 ∧
      exec .cmdN s = .next
        { s with
          nodeId := id, nv := nv, cv := 0, top := 0
          out := s.out ++ [.conEcho (s.stk.toList.take s.top.toNat) s.cv, .nvWrite s.cfg.nvNodeIdAddr id] } ∧
      ∀ a : Nat, Memory.read nv a = if a = s.cfg.nvNodeIdAddr then some id else Memory.read s.nv a

/-- R106: `x` echoes, keeps all 16 bits of `cv` as the display format, and clears; nothing is persisted. That the field
has 16 bits is the spec's own decision D12. -/
def Obligations.CommandXSetsDisplayFormat : Prop :=
  decode 0x078 = .cmdX ∧
  ∀ s : State, s.run = .running →
    exec .cmdX s = .next
      { s with dispFmt := s.cv, cv := 0, top := 0, out := s.out ++ [.conEcho (s.stk.toList.take s.top.toNat) s.cv] }

/-- R107: `v` echoes, identifies, and clears. -/
def Obligations.CommandVIdentifies : Prop :=
  decode 0x076 = .cmdV ∧
  ∀ s : State, s.run = .running →
    exec .cmdV s = .next
      { s with cv := 0, top := 0, out := s.out ++ [.conEcho (s.stk.toList.take s.top.toNat) s.cv, .conIdent] }

/-- R108: `h` echoes, prints help with the node id held in memory, and clears. -/
def Obligations.CommandHShowsNodeId : Prop :=
  decode 0x068 = .cmdH ∧
  ∀ s : State, s.run = .running →
    exec .cmdH s = .next
      { s with
        cv := 0, top := 0
        out := s.out ++ [.conEcho (s.stk.toList.take s.top.toNat) s.cv, .conHelp s.nodeId] }

/-- R109: each of the other 21 lowercase letters echoes and clears. -/
def Obligations.OtherLettersEchoAndClear : Prop :=
  ∀ c : Byte, 0x61 ≤ c.toNat → c.toNat ≤ 0x7A → c.toNat ∉ [0x68, 0x6E, 0x73, 0x76, 0x78] →
    decode (0#2 ++ c) = .cmdLowerNop c ∧
    ∀ s : State, s.run = .running →
      exec (.cmdLowerNop c) s = .next
        { s with cv := 0, top := 0, out := s.out ++ [.conEcho (s.stk.toList.take s.top.toNat) s.cv] }

/-- R110: every other character above space clears and emits nothing; with `OTHER_CLEARS` false it changes nothing.
That it clears is the spec's own decision D4. -/
def Obligations.OtherCharactersClear : Prop :=
  ∀ c : Byte, 0x20 < c.toNat → ¬(0x30 ≤ c.toNat ∧ c.toNat ≤ 0x39) → c.toNat ≠ 0x2C →
    ¬(0x61 ≤ c.toNat ∧ c.toNat ≤ 0x7A) →
    decode (0#2 ++ c) = .charOther c ∧
    ∀ s : State, s.run = .running →
      (s.cfg.otherClears = true → exec (.charOther c) s = .next { s with cv := 0, top := 0 }) ∧
      (s.cfg.otherClears = false → exec (.charOther c) s = .next s)

/-- R111: a character at or below space clears and emits nothing. -/
def Obligations.BlankCharactersClear : Prop :=
  ∀ c : Byte, c.toNat ≤ 0x20 →
    decode (0#2 ++ c) = .charBlank c ∧
    ∀ s : State, s.run = .running → exec (.charBlank c) s = .next { s with cv := 0, top := 0 }

/-- R112: after any character but a digit or a comma, `cv = 0` and the stack is empty. -/
def Obligations.DispatchLeavesAccumulatorEmpty : Prop :=
  ∀ (c : Byte) (s : State), s.run = .running → s.cfg.otherClears = true →
    ¬(0x30 ≤ c.toNat ∧ c.toNat ≤ 0x39) → c.toNat ≠ 0x2C →
    ∃ t : State, exec (decode (0#2 ++ c)) s = .next t ∧ t.cv = 0 ∧ t.top = 0 ∧ t.stk = s.stk

/-- R101: a lowercase letter, command or not, first of all echoes the valid stack bytes and `cv`, once; no other
character adds anything to the trace. -/
def Obligations.EchoExactlyForLowercase : Prop :=
  ∀ (c : Byte) (s : State), s.run = .running →
    ∃ (t : State) (added : List OutEvent), exec (decode (0#2 ++ c)) s = .next t ∧ t.out = s.out ++ added ∧
      (0x61 ≤ c.toNat ∧ c.toNat ≤ 0x7A → ∃ rest : List OutEvent,
        added = .conEcho (s.stk.toList.take s.top.toNat) s.cv :: rest ∧ rest.any isEcho = false) ∧
      (¬(0x61 ≤ c.toNat ∧ c.toNat ≤ 0x7A) → added = [])

/-! The link (spec/42_link_mode_fsm.md) -/

/-- R127: TXDONE logs and returns the link to receive, with the role's receive inversion. That it does so also when
nothing was in flight is the spec's own decision D19. -/
def Obligations.TransmitCompleteReturnsToReceive : Prop :=
  ∀ s : State, s.run = .running →
    exec .evTxdone s = .next
      { s with
        mode := .receiving, inv := decide (s.cfg.role = .node)
        out := s.out ++ [.conTxDoneLog, .xcvrSetInvert (decide (s.cfg.role = .node)), .xcvrRxContinuous] }

/-- R130: a packet of at most 10 bytes is reported with the display format, byte by byte in order, and drained. The
bytes the environment supplied are reported as they are; nothing is said of one it did not supply. -/
def Obligations.ReceivedPacketIsReported : Prop :=
  ∀ (size : Byte) (s : State), s.run = .running → size.toNat ≤ 10 →
    ∃ (bytes : List Byte) (n : Nat),
      exec (.evRxdone size) s = .next
        { s with out := s.out ++ [.conRxReport s.dispFmt bytes], rxb := s.rxb.drop size.toNat, draws := n } ∧
      bytes.length = size.toNat ∧ ∀ k : Nat, k < size.toNat → k < s.rxb.length → bytes[k]? = s.rxb[k]?

/-- R130, R55: an oversized packet gives an error marker, and no byte of it is read. -/
def Obligations.OversizedPacketIsMarked : Prop :=
  ∀ (size : Byte) (s : State), s.run = .running → 10 < size.toNat →
    exec (.evRxdone size) s = .next { s with out := s.out ++ [.conRxError] }

/-! The main loop (spec/43_scheduler.md) -/

/-- R141, R144: with no request armed a TICK changes nothing. -/
def Obligations.TickWithoutRequestIsIdle : Prop :=
  ∀ s : State, s.run = .running → s.armed = false → exec .evTick s = .next s

/-- R142: a TICK that finds a request it may send consumes it and transmits, the destination byte first. The length
`TX_LEN(plen)`, by default `1 + plen`, is the spec's own decision D9. Nothing is said of a body byte no rule wrote. -/
def Obligations.TickSendsArmedRequest : Prop :=
  ∀ (s : State) (n : Nat), s.run = .running → s.armed = true →
    (s.mode = .receiving ∨ s.cfg.sendWhileTx = .reissue) →
    n = s.cfg.txLen.getD s.plen.toNat (1 + s.plen.toNat) → n ≤ 10 →
    ∃ (bytes : List Byte) (txb : Memory) (m : Nat),
      exec .evTick s = .next
        { s with
          armed := false, txb := txb, mode := .transmitting, inv := decide (s.cfg.role = .gateway)
          txInFlight := true, draws := m
          out := s.out ++
            [.xcvrIdle, .xcvrSetInvert (decide (s.cfg.role = .gateway)), .xcvrTransmit bytes n] } ∧
      (∀ k : Nat, Memory.read txb k = if k = 0 then some s.pdest else Memory.read s.txb k) ∧
      bytes.length = n ∧ ∀ (k : Nat) (b : Byte), k < n → Memory.read txb k = some b → bytes[k]? = some b

/-- R143: a request found while transmitting stays armed under `Defer` and is discarded under `Drop`. The policies are
the spec's own decision D7. -/
def Obligations.TickWhileTransmitting : Prop :=
  ∀ s : State, s.run = .running → s.armed = true → s.mode = .transmitting →
    (s.cfg.sendWhileTx = .defer → exec .evTick s = .next s) ∧
    (s.cfg.sendWhileTx = .drop → exec .evTick s = .next { s with armed := false })

/-- R140: an iteration takes input before it sends and sends before it idles. With a character available nothing is
transmitted, the mode stays and an armed request stays armed; with none, an armed request that may go is sent by one
transmission, and with no request nothing changes. That the environment presents a TICK only when no character is
available is the spec's own decision D2. -/
def Obligations.MainLoopArbitration : Prop :=
  ∀ (available : Option Byte) (s : State), s.run = .running →
    (available.isSome = true →
      ∃ (t : State) (added : List OutEvent), exec (decode (iterationWord available)) s = .next t ∧
        t.out = s.out ++ added ∧ added.any isTransmit = false ∧ t.mode = s.mode ∧ (s.armed = true → t.armed = true)) ∧
    (available = none → s.armed = true → s.mode = .receiving →
      s.cfg.txLen.getD s.plen.toNat (1 + s.plen.toNat) ≤ 10 →
      ∃ (t : State) (added : List OutEvent), exec (decode (iterationWord available)) s = .next t ∧
        t.out = s.out ++ added ∧ (added.filter isTransmit).length = 1 ∧ t.mode = .transmitting ∧ t.armed = false) ∧
    (available = none → s.armed = false → exec (decode (iterationWord available)) s = .next s)

/-- R145: however many characters are typed, an armed request waits: while input keeps coming nothing is transmitted. -/
def Obligations.InputStarvesSends : Prop :=
  ∀ (chars : List Byte) (s : State), s.run = .running → s.armed = true →
    ∃ (t : State) (added : List OutEvent),
      execAll (chars.map fun c => decode (iterationWord (some c))) s = .next t ∧
      t.run = .running ∧ t.armed = true ∧ t.mode = s.mode ∧ t.out = s.out ++ added ∧ added.any isTransmit = false

/-- R126: the one fault of the block is a send above the wire bound, and it is raised exactly there. That the case is a
fault is the spec's own decision D10. -/
def Obligations.OnlyOverlongSendFaults : Prop :=
  ∀ (i : Instr) (s : State) (n : Nat),
    exec i s = .fault (.txLengthViolation n) ↔
      i = .evTick ∧ s.run = .running ∧ s.armed = true ∧
      (s.mode = .receiving ∨ s.cfg.sendWhileTx = .reissue) ∧
      n = s.cfg.txLen.getD s.plen.toNat (1 + s.plen.toNat) ∧ 10 < n

/-- R150: every operation completes or does nothing, but for that fault; no instruction is refused. -/
def Obligations.NoInstructionIsRefused : Prop :=
  ∀ (i : Instr) (s : State) (r : Refusal), exec i s ≠ .refused r

/-- R143: under `Defer` a request that waited while transmitting is sent by the first TICK after the TXDONE. -/
def Obligations.DeferredRequestIsSentAfterTxDone : Prop :=
  ∀ s : State, s.run = .running → s.armed = true → s.mode = .transmitting → s.cfg.sendWhileTx = .defer →
    s.cfg.txLen = [] → s.plen.toNat ≤ 9 →
    ∃ (t u : State) (body : List Byte),
      execAll [.evTick, .evTxdone] s = .next t ∧ exec .evTick t = .next u ∧
      t.armed = true ∧ t.mode = .receiving ∧ u.armed = false ∧ u.mode = .transmitting ∧
      body.length = s.plen.toNat ∧
      u.out.getLast? = some (.xcvrTransmit (s.pdest :: body) (1 + s.plen.toNat))

/-- R104, R142 with `BODY_FROM_STACK`: the bytes transmitted are the destination and then the bytes that were pushed.
The parameter is the spec's own decision D8. -/
def Obligations.BodyFromStackIsTransmitted : Prop :=
  ∀ s : State, s.run = .running → s.mode = .receiving → s.cfg.bodyFromStack = true → s.cfg.txLen = [] →
    s.top.toNat ≤ 9 →
    ∃ u : State, execAll [.cmdS, .evTick] s = .next u ∧
      u.out.getLast? = some (.xcvrTransmit
        (BitVec.ofNat 8 (s.cv.toNat % 256) :: s.stk.toList.take s.top.toNat) (1 + s.top.toNat))

/-! Rules about all instructions -/

/-- R120: the link has two edges, `Receiving` to `Transmitting` in a TICK that consumes a request and back in TXDONE. -/
def Obligations.ModeHasTwoEdges : Prop :=
  ∀ (i : Instr) (s t : State), exec i s = .next t → t.mode ≠ s.mode →
    (s.mode = .receiving ∧ t.mode = .transmitting ∧ i = .evTick ∧ s.armed = true ∧ t.armed = false) ∨
    (s.mode = .transmitting ∧ t.mode = .receiving ∧ i = .evTxdone)

/-- R146: a request is consumed only by a TICK, and but for `Drop` by exactly one transmission. -/
def Obligations.RequestConsumedByOneSend : Prop :=
  ∀ (i : Instr) (s t : State), exec i s = .next t → s.armed = true → t.armed = false →
    i = .evTick ∧
    (s.cfg.sendWhileTx ≠ .drop → ∃ added : List OutEvent,
      t.out = s.out ++ added ∧ (added.filter isTransmit).length = 1)

/-- R35, R52: among the instructions only `n` writes the node id or the persistent store. -/
def Obligations.OnlyCommandNWritesNodeId : Prop :=
  ∀ (i : Instr) (s t : State), exec i s = .next t → (t.nodeId ≠ s.nodeId ∨ t.nv ≠ s.nv) → i = .cmdN

/-- R36: among the instructions only `x` writes the display format. -/
def Obligations.OnlyCommandXWritesDisplayFormat : Prop :=
  ∀ (i : Instr) (s t : State), exec i s = .next t → t.dispFmt ≠ s.dispFmt → i = .cmdX

/-- R42: the accumulator, the stack, the request, the configuration and the payload buffer are never written by a
notification, and `mode` and `inv` never by a character. -/
def Obligations.StateOwnership : Prop :=
  ∀ (i : Instr) (s t : State), exec i s = .next t →
    ((i.kind = .txdone ∨ i.kind = .rxdone) →
      t.cv = s.cv ∧ t.stk = s.stk ∧ t.top = s.top ∧ t.armed = s.armed ∧ t.pdest = s.pdest ∧ t.plen = s.plen ∧
      t.nodeId = s.nodeId ∧ t.dispFmt = s.dispFmt ∧ t.txb = s.txb ∧ t.nv = s.nv) ∧
    (i.kind = .rxdone → t.mode = s.mode ∧ t.inv = s.inv) ∧
    (i.kind = .char → t.mode = s.mode ∧ t.inv = s.inv ∧ t.txInFlight = s.txInFlight) ∧
    t.run = s.run

/-- R90: a character is interpreted in the same way whatever `mode`, `inv`, `armed` and `txb` are. -/
def Obligations.InterpreterIgnoresLink : Prop :=
  ∀ (i : Instr) (s t : State) (mode : Mode) (inv armed : Bool) (txb : Memory),
    i.kind = .char → exec i s = .next t →
    ∃ u : State, exec i { s with mode := mode, inv := inv, armed := armed, txb := txb } = .next u ∧
      u.cv = t.cv ∧ u.stk = t.stk ∧ u.top = t.top ∧ u.pdest = t.pdest ∧ u.plen = t.plen ∧ u.nodeId = t.nodeId ∧
      u.dispFmt = t.dispFmt ∧ u.nv = t.nv ∧ u.out = t.out

/-- R132: a notification has the same effect whatever the interpreter's registers, the request, the node id and the
payload buffer are. -/
def Obligations.HandlersIgnoreInterpreter : Prop :=
  ∀ (i : Instr) (s t : State) (cv : Word16) (stk : Vector Byte 14) (top : BitVec 8) (armed : Bool) (pdest : Byte)
    (plen : BitVec 8) (nodeId : Byte) (txb : Memory),
    (i.kind = .txdone ∨ i.kind = .rxdone) → exec i s = .next t →
    ∃ u : State,
      exec i { s with
        cv := cv, stk := stk, top := top, armed := armed, pdest := pdest, plen := plen, nodeId := nodeId
        txb := txb } = .next u ∧
      u.mode = t.mode ∧ u.inv = t.inv ∧ u.out = t.out ∧ u.rxb = t.rxb

/-- R176, R177: outside `Running` no event has any effect. These are the spec's own decisions D18 and D29. -/
def Obligations.NoEffectOutsideRunning : Prop :=
  ∀ (i : Instr) (s : State), s.run ≠ .running → exec i s = .next s

/-! Steps, reset and boot (spec/70_reset_and_hazards.md) -/

/-- A step on an event is the instruction its word decodes to, run after the environment has delivered the event's own
part: the bytes of an RXDONE's packet (R71), the end of the transmission at a TXDONE (R39). It holds in every phase, and
so rests on three choices of the model: the next stimulus is the head of a list in the state (log 1), an RXDONE's bytes
replace the list of undrained ones (log 8), and an event presented in `Booting` or `Halted` is consumed, the environment's
own part of it included (log 12). -/
def Obligations.StepRunsDecodedEvent : Prop :=
  ∀ (word : EventWord) (rx : List Byte) (rest : List Stimulus) (s : State),
    s.pending = .event word rx :: rest →
    step s = exec (decode word)
      { s with
        pending := rest
        rxb := if (decode word).kind = .rxdone then rx else s.rxb
        txInFlight := if (decode word).kind = .txdone then false else s.txInFlight }

/-- With nothing presented the block waits. That is the model's own reading, log 1. -/
def Obligations.StepWaitsForEnvironment : Prop :=
  ∀ s : State, s.pending = [] → step s = .next s

/-- Right after reset the phase is `Booting` and nothing has been emitted, and no event is accepted (R170, R177). -/
def Obligations.ResetIsBooting : Prop :=
  State.reset.run = .booting ∧ State.reset.out = [] ∧ State.reset.nv = [] ∧ State.reset.txb = [] ∧
  ∀ i : Instr, exec i State.reset = .next State.reset

/-- R173: a persisted byte outside 1..7 is replaced by 1 and persisted; one inside is kept and nothing is written. The
display format is not touched. A byte nobody wrote is what the environment answers, log 9. -/
def Obligations.ConfigLoadRepairsNodeId : Prop :=
  ∀ (answer v : Byte) (s : State), v = (Memory.read s.nv s.cfg.nvNodeIdAddr).getD answer →
    ∃ nv : Memory,
      (∀ a : Nat, a ≠ s.cfg.nvNodeIdAddr → Memory.read nv a = Memory.read s.nv a) ∧
      ((v.toNat < 1 ∨ 7 < v.toNat) →
        Memory.read nv s.cfg.nvNodeIdAddr = some 1 ∧
        configLoad answer s =
          { s with nodeId := 1, nv := nv, out := s.out ++ [.nvWrite s.cfg.nvNodeIdAddr 1] }) ∧
      (1 ≤ v.toNat → v.toNat ≤ 7 →
        Memory.read nv s.cfg.nvNodeIdAddr = some v ∧ configLoad answer s = { s with nodeId := v, nv := nv })

/-- R41, R170, R178: what a successful boot leaves, and what it emits, in both orders of the parameter
`BOOT_LOAD_BEFORE_INIT`. The values and the order are the spec's own decisions D13, D16 and D17. -/
def Obligations.BootLeavesResetValues : Prop :=
  ∀ (answer v : Byte) (rest : List Stimulus) (s : State), s.run = .booting →
    s.pending = .consoleReady true answer :: rest → v = (Memory.read s.nv s.cfg.nvNodeIdAddr).getD answer →
    ∃ nv : Memory,
      Memory.read nv s.cfg.nvNodeIdAddr = some (if 1 ≤ v.toNat ∧ v.toNat ≤ 7 then v else 1) ∧
      (∀ a : Nat, a ≠ s.cfg.nvNodeIdAddr → Memory.read nv a = Memory.read s.nv a) ∧
      step s = .next
        { s with
          pending := rest, cv := 0, top := 0, armed := false, dispFmt := s.cfg.dispFmtReset
          nodeId := if 1 ≤ v.toNat ∧ v.toNat ≤ 7 then v else 1
          nv := nv, mode := .receiving, inv := decide (s.cfg.role = .node), txInFlight := false, run := .running
          out :=
            s.out ++
              (let repair := if 1 ≤ v.toNat ∧ v.toNat ≤ 7 then [] else [OutEvent.nvWrite s.cfg.nvNodeIdAddr 1]
               let init := [OutEvent.xcvrInit s.cfg.channelFreq]
               (if s.cfg.bootLoadBeforeInit then repair ++ init else init ++ repair) ++
                 [.xcvrSetInvert (decide (s.cfg.role = .node)), .xcvrRxContinuous]) }

/-- R175: when the transceiver does not initialise, one `Con.InitFail` is emitted, last, and the block halts for good;
receive mode is not entered, and `mode` and `inv` keep their values. -/
def Obligations.InitFailureHalts : Prop :=
  ∀ (answer : Byte) (rest : List Stimulus) (s : State), s.run = .booting →
    s.pending = .consoleReady false answer :: rest →
    ∃ (t : State) (before : List OutEvent), step s = .next t ∧
      t.run = .halted ∧ t.mode = s.mode ∧ t.inv = s.inv ∧ t.out = s.out ++ before ++ [.conInitFail] ∧
      (∀ i : Instr, exec i t = .next t) ∧
      ∀ e ∈ before, e ≠ .conInitFail ∧ e ≠ .xcvrRxContinuous ∧ ∀ b : Bool, e ≠ .xcvrSetInvert b

/-- R170: with `BOOT_LOAD_BEFORE_INIT` false a device whose transceiver fails never touches the store; with true the
configuration is loaded first. The order is the spec's own decision D16. -/
def Obligations.FailedBootTouchesStoreByOrder : Prop :=
  ∀ (answer : Byte) (rest : List Stimulus) (s t : State), s.run = .booting →
    s.pending = .consoleReady false answer :: rest → step s = .next t →
    (s.cfg.bootLoadBeforeInit = false →
      t.nv = s.nv ∧ t.nodeId = s.nodeId ∧ t.out = s.out ++ [.xcvrInit s.cfg.channelFreq, .conInitFail]) ∧
    (s.cfg.bootLoadBeforeInit = true →
      t.nodeId = (configLoad answer s).nodeId ∧ t.nv = (configLoad answer s).nv ∧
      t.out = (configLoad answer s).out ++ [.xcvrInit s.cfg.channelFreq, .conInitFail])

/-- R176, R180: only a power cycle leaves `Halted`; any other step leaves every register of the block and the trace as
they are. -/
def Obligations.OnlyPowerCycleLeavesHalted : Prop :=
  ∀ s : State, s.run = .halted → (∀ rest, s.pending ≠ .powerCycle :: rest) →
    ∃ (pending : List Stimulus) (rxb : List Byte) (flight : Bool),
      step s = .next { s with pending := pending, rxb := rxb, txInFlight := flight }

/-- R180: a power cycle returns the block to `Booting`; of the block's state and its stores only the persistent store is
kept. Every register then has its value of power-on, which the spec leaves unspecified until boot ends: the values are the
model's choice, logs 2 and 10. The split of reset, and that the trace, the parameters and the rest of the list of stimuli
go on, is log 11. -/
def Obligations.PowerCycleKeepsOnlyStore : Prop :=
  ∀ (rest : List Stimulus) (s : State), s.pending = .powerCycle :: rest →
    ∃ t : State, step s = .next t ∧ t.run = .booting ∧ t.nv = s.nv ∧ t.armed = false ∧ t.txInFlight = false ∧
      t.rxb = [] ∧ t.txb = [] ∧ t.out = s.out ∧ t.pending = rest ∧ t.cfg = s.cfg ∧
      t.cv = 0 ∧ t.stk = Vector.replicate 14 0 ∧ t.top = 0 ∧ t.pdest = 0 ∧ t.plen = 0 ∧ t.nodeId = 1 ∧
      t.dispFmt = 0 ∧ t.mode = .receiving ∧ t.inv = false

/-- R105, R173, R188: the node id set by `n` is in 0..63, and after a power cycle and a boot it is kept if it is in
1..7 and is 1 otherwise. -/
def Obligations.NodeIdAfterReboot : Prop :=
  ∀ (answer : Byte) (s t : State), exec .cmdN s = .next t → s.run = .running →
    t.nodeId.toNat ≤ 63 ∧
    ∃ u v : State,
      step { t with pending := [.powerCycle, .consoleReady true answer] } = .next u ∧ step u = .next v ∧
      v.run = .running ∧ v.nodeId = if 1 ≤ t.nodeId.toNat ∧ t.nodeId.toNat ≤ 7 then t.nodeId else 1

/-! Invariants and laws of the machine -/

/-- The state right after reset meets the invariant; its register values are the model's choice, log 2. -/
def Obligations.ResetMeetsInv : Prop := Inv State.reset

/-- R43 (a) to (d), R54: every step keeps the relations between the registers and the form of the stores. After a power
cycle the registers hold the values the model chose for `Booting`, log 2. -/
def Obligations.StepKeepsInv : Prop :=
  ∀ s t : State, Inv s → step s = .next t → Inv t

/-- R128: under `Defer`, in an environment that delivers TXDONE only for a transmission in flight, `Xcvr.Transmit` and
`Con.TxDoneLog` alternate in the trace and the mode is the one they say, after every step. -/
def Obligations.LinkAlternates : Prop :=
  ∀ s t : State, s.cfg.sendWhileTx = .defer → LawfulNext s → LinkInv s → step s = .next t → LinkInv t

/-- A successful boot on an empty trace establishes the alternation. -/
def Obligations.BootStartsAlternation : Prop :=
  ∀ (answer : Byte) (rest : List Stimulus) (s : State), s.run = .booting → s.out = [] →
    s.pending = .consoleReady true answer :: rest → ∃ t : State, step s = .next t ∧ LinkInv t

/-- R162, R130, R105: with the default length, every step keeps the trace within its bounds: a transmission carries 1 to
10 bytes and says how many, a report at most 10, a node id shown or stored is at most 63. -/
def Obligations.StepKeepsTraceLegal : Prop :=
  ∀ s t : State, s.cfg.txLen = [] → Inv s → LegalTrace s → step s = .next t → LegalTrace t

/-- R16: the trace is only appended to. -/
def Obligations.TraceOnlyGrows : Prop :=
  ∀ s t : State, step s = .next t → ∃ added : List OutEvent, t.out = s.out ++ added

/-- R40: the parameters are fixed. -/
def Obligations.ParametersNeverChange : Prop :=
  ∀ s t : State, step s = .next t → t.cfg = s.cfg

/-- R123: with the invariant, a transmitting device is heard by the receiving devices of the other role and not by those
of its own: their inversions agree exactly then. -/
def Obligations.RolesSeparatedByInversion : Prop :=
  ∀ s u : State, Inv s → Inv u → s.run = .running → u.run = .running → s.mode = .transmitting →
    u.mode = .receiving → (s.inv = u.inv ↔ s.cfg.role ≠ u.cfg.role)

/-- R131: in decimal mode a byte prints a space and then its value, in hex mode a byte of at least 0x10 prints its two
uppercase digits and no space. -/
def Obligations.ByteRendering : Prop :=
  (∀ b : Byte, ∃ digits : List Byte, byteText 0 b = 0x20 :: digits ∧ digits ≠ [] ∧
    (∀ c ∈ digits, 0x30 ≤ c.toNat ∧ c.toNat ≤ 0x39) ∧
    digits.foldl (fun v c => v * 10 + (c.toNat - 0x30)) 0 = b.toNat) ∧
  byteText 1 0xAB = [0x41, 0x42] ∧
  ∀ b : Byte, 0x10 ≤ b.toNat → ∃ hi lo : Byte, byteText 1 b = [hi, lo] ∧
    isHexDigit hi = true ∧ isHexDigit lo = true ∧ 16 * hexDigitValue hi + hexDigitValue lo = b.toNat

/-- The spec (R131, the source's scenario C) says how a byte prints: 0xAB as `AB` in hex mode and as `" 171"` in decimal
mode. That a whole report is its bytes' texts in order and then the line end, with nothing before the first byte and in
decimal mode nothing else between two bytes, is the model's own deduction from those examples, log 18 (DEDUCED, unsafe). The
separator of hex mode and the line end are not stated; both are opaque, log 18. -/
def Obligations.ReportRendering : Prop :=
  (∀ s : State, s.run = .running → s.rxb = [0xAB] →
    ∃ t : State, exec (.evRxdone 1) s = .next t ∧
      (s.dispFmt = 1 → consoleOutput t = consoleOutput s ++ [0x41, 0x42] ++ Config.reportEnd 1) ∧
      (s.dispFmt = 0 → consoleOutput t = consoleOutput s ++ [0x20, 0x31, 0x37, 0x31] ++ Config.reportEnd 0)) ∧
  (∀ (fmt : Word16) (bytes : List Byte), fmt = 0 ∨ fmt = 1 → ∃ body : List Byte,
    consoleText (.conRxReport fmt bytes) = some (body ++ Config.reportEnd fmt) ∧
    (fmt = 0 → body = (bytes.map (byteText 0)).flatten) ∧
    (fmt = 1 → body = ((bytes.map (byteText 1)).intersperse Config.hexSeparator).flatten))
end

