-- ==== Sys2Proof/Laws/Console.lean ====
section
/-!
SUPPORT. What an event adds to the console, and the line of a report in the two formats the spec renders.
-/

namespace Sys2Proof.Machine

/-- An event adds its own text, if it has one, after what was shown before. -/
theorem consoleOutput_emit (e : OutEvent) (s : State) :
    consoleOutput (emit e s) = consoleOutput s ++ (consoleText e).getD [] := by
  cases h : consoleText e <;> simp [consoleOutput, emit, h]

theorem reportText_decimal (bytes : List Byte) :
    reportText 0 bytes = bytes.flatMap (byteText 0) ++ Config.reportEnd 0 := rfl

theorem reportText_hex (bytes : List Byte) :
    reportText 1 bytes = Config.hexSeparator.intercalate (bytes.map (byteText 1)) ++ Config.reportEnd 1 := rfl

end Sys2Proof.Machine
end

