-- ==== Sys2Proof/Laws/Memory.lean ====
section
/-!
SUPPORT. The laws of a byte store: a read after a write, the canonical form, and where the cells lie. Every operation on
a store is `Memory.write` or `Memory.writeList`.
-/

namespace Sys2Proof.Machine

theorem Memory.read_write_same (m : Memory) (a : Nat) (v : Byte) : Memory.read (Memory.write m a v) a = some v := by
  induction m with
  | nil => simp [Memory.write, Memory.read]
  | cons c m ih =>
    obtain ⟨k, b⟩ := c
    simp only [Memory.write]
    split
    · simp [Memory.read]
    · split
      · simp [Memory.read]
      · rename_i _ h
        simp [Memory.read, Ne.symm h, ih]

theorem Memory.read_write_other (m : Memory) {a k : Nat} (v : Byte) (h : k ≠ a) :
    Memory.read (Memory.write m a v) k = Memory.read m k := by
  induction m with
  | nil => simp [Memory.write, Memory.read, Ne.symm h]
  | cons c m ih =>
    obtain ⟨j, b⟩ := c
    simp only [Memory.write]
    split
    · simp [Memory.read, Ne.symm h]
    · split
      · rename_i _ hj
        subst hj
        simp [Memory.read, Ne.symm h]
      · simp [Memory.read, ih]

/-- The read of any address after a write. -/
theorem Memory.read_write (m : Memory) (a k : Nat) (v : Byte) :
    Memory.read (Memory.write m a v) k = if k = a then some v else Memory.read m k := by
  split
  · rename_i h
    exact h ▸ Memory.read_write_same m a v
  · exact Memory.read_write_other m v ‹_›

/-- A write lists its own address and otherwise the addresses already listed. -/
theorem Memory.mem_write {m : Memory} {a : Nat} {v : Byte} {c : Host.Cell} (h : c ∈ Memory.write m a v) :
    c.1 = a ∨ c ∈ m := by
  induction m with
  | nil => simp_all [Memory.write]
  | cons d m ih =>
    obtain ⟨k, b⟩ := d
    simp only [Memory.write] at h
    split at h
    · rcases List.mem_cons.mp h with rfl | h
      · exact .inl rfl
      · exact .inr h
    · split at h
      · rcases List.mem_cons.mp h with rfl | h
        · exact .inl rfl
        · exact .inr (List.mem_cons_of_mem _ h)
      · rcases List.mem_cons.mp h with rfl | h
        · exact .inr List.mem_cons_self
        · exact (ih h).imp id (List.mem_cons_of_mem _)

theorem Memory.wf_cons {k : Nat} {b : Byte} {m : Memory} :
    Memory.wf ((k, b) :: m) ↔ (∀ c ∈ m, k < c.1) ∧ Memory.wf m := by
  simp [Memory.wf, List.pairwise_cons]

/-- A write keeps the canonical form. -/
theorem Memory.wf_write {m : Memory} (a : Nat) (v : Byte) (h : Memory.wf m) : Memory.wf (Memory.write m a v) := by
  induction m with
  | nil => simp [Memory.wf, Memory.write]
  | cons d m ih =>
    obtain ⟨k, b⟩ := d
    obtain ⟨hk, hm⟩ := Memory.wf_cons.mp h
    simp only [Memory.write]
    split
    · rename_i hak
      refine Memory.wf_cons.mpr ⟨fun c hc => ?_, h⟩
      rcases List.mem_cons.mp hc with rfl | hc
      · exact hak
      · exact Nat.lt_trans hak (hk c hc)
    · split
      · rename_i hak
        exact Memory.wf_cons.mpr ⟨hak ▸ hk, hm⟩
      · rename_i h1 h2
        refine Memory.wf_cons.mpr ⟨fun c hc => ?_, ih hm⟩
        rcases Memory.mem_write hc with hc | hc
        · omega
        · exact hk c hc

/-- A run of writes keeps the canonical form. -/
theorem Memory.wf_writeList {m : Memory} (a : Nat) (vs : List Byte) (h : Memory.wf m) :
    Memory.wf (Memory.writeList m a vs) := by
  induction vs generalizing m a with
  | nil => exact h
  | cons v vs ih => exact ih (a + 1) (Memory.wf_write a v h)

/-- A run of writes lists the addresses written and those already listed. -/
theorem Memory.mem_writeList {m : Memory} {a : Nat} {vs : List Byte} {c : Host.Cell}
    (h : c ∈ Memory.writeList m a vs) : (a ≤ c.1 ∧ c.1 < a + vs.length) ∨ c ∈ m := by
  induction vs generalizing m a with
  | nil => exact .inr h
  | cons v vs ih =>
    rcases ih h with ⟨h1, h2⟩ | h
    · exact .inl ⟨by omega, by simp only [List.length_cons]; omega⟩
    · rcases Memory.mem_write h with h | h
      · exact .inl ⟨by omega, by simp only [List.length_cons]; omega⟩
      · exact .inr h

/-- The read of any address after a run of writes from `a`. -/
theorem Memory.read_writeList (m : Memory) (a : Nat) (vs : List Byte) (k : Nat) :
    Memory.read (Memory.writeList m a vs) k =
      if a ≤ k ∧ k < a + vs.length then vs[k - a]? else Memory.read m k := by
  induction vs generalizing m a with
  | nil => simp [Memory.writeList, show ¬(a ≤ k ∧ k < a) by omega]
  | cons v vs ih =>
    simp only [Memory.writeList, ih, Memory.read_write, List.length_cons]
    by_cases hk : k = a
    · subst hk
      simp [show ¬(k + 1 ≤ k) by omega]
    · by_cases hr : a + 1 ≤ k ∧ k < a + 1 + vs.length
      · obtain ⟨j, rfl⟩ : ∃ j, k = a + 1 + j := ⟨k - (a + 1), by omega⟩
        rw [if_pos hr, if_pos (by omega), show a + 1 + j - a = j + 1 by omega, List.getElem?_cons_succ]
        congr 1
        omega
      · rw [if_neg hr, if_neg hk, if_neg (by omega)]

theorem State.reset_nv_wf : Memory.wf State.reset.nv := by simp [State.reset, Memory.wf]

theorem State.reset_txb_wf : Memory.wf State.reset.txb := by simp [State.reset, Memory.wf]

end Sys2Proof.Machine
end

