-- ==== Sys2Proof/Laws/State.lean ====
section
/-!
SUPPORT. The sizes of the block as numerals, and what each basic update does to each field of the state, one lemma per
field and update.
-/

namespace Sys2Proof.Machine

@[simp] theorem payloadMax_eq : Config.payloadMax = 10 := rfl
@[simp] theorem bodyMax_eq : Config.bodyMax = 9 := rfl
@[simp] theorem stackCap_eq : Config.stackCap = 14 := rfl

@[simp] theorem emit_cv (e : OutEvent) (s : State) : (emit e s).cv = s.cv := rfl
@[simp] theorem emit_stk (e : OutEvent) (s : State) : (emit e s).stk = s.stk := rfl
@[simp] theorem emit_top (e : OutEvent) (s : State) : (emit e s).top = s.top := rfl
@[simp] theorem emit_armed (e : OutEvent) (s : State) : (emit e s).armed = s.armed := rfl
@[simp] theorem emit_pdest (e : OutEvent) (s : State) : (emit e s).pdest = s.pdest := rfl
@[simp] theorem emit_plen (e : OutEvent) (s : State) : (emit e s).plen = s.plen := rfl
@[simp] theorem emit_nodeId (e : OutEvent) (s : State) : (emit e s).nodeId = s.nodeId := rfl
@[simp] theorem emit_dispFmt (e : OutEvent) (s : State) : (emit e s).dispFmt = s.dispFmt := rfl
@[simp] theorem emit_mode (e : OutEvent) (s : State) : (emit e s).mode = s.mode := rfl
@[simp] theorem emit_inv (e : OutEvent) (s : State) : (emit e s).inv = s.inv := rfl
@[simp] theorem emit_txb (e : OutEvent) (s : State) : (emit e s).txb = s.txb := rfl
@[simp] theorem emit_run (e : OutEvent) (s : State) : (emit e s).run = s.run := rfl
@[simp] theorem emit_nv (e : OutEvent) (s : State) : (emit e s).nv = s.nv := rfl
@[simp] theorem emit_rxb (e : OutEvent) (s : State) : (emit e s).rxb = s.rxb := rfl
@[simp] theorem emit_txInFlight (e : OutEvent) (s : State) : (emit e s).txInFlight = s.txInFlight := rfl
@[simp] theorem emit_out (e : OutEvent) (s : State) : (emit e s).out = s.out ++ [e] := rfl
@[simp] theorem emit_pending (e : OutEvent) (s : State) : (emit e s).pending = s.pending := rfl
@[simp] theorem emit_cfg (e : OutEvent) (s : State) : (emit e s).cfg = s.cfg := rfl
@[simp] theorem emit_draws (e : OutEvent) (s : State) : (emit e s).draws = s.draws := rfl

@[simp] theorem setInvert_cv (b : Bool) (s : State) : (setInvert b s).cv = s.cv := rfl
@[simp] theorem setInvert_stk (b : Bool) (s : State) : (setInvert b s).stk = s.stk := rfl
@[simp] theorem setInvert_top (b : Bool) (s : State) : (setInvert b s).top = s.top := rfl
@[simp] theorem setInvert_armed (b : Bool) (s : State) : (setInvert b s).armed = s.armed := rfl
@[simp] theorem setInvert_pdest (b : Bool) (s : State) : (setInvert b s).pdest = s.pdest := rfl
@[simp] theorem setInvert_plen (b : Bool) (s : State) : (setInvert b s).plen = s.plen := rfl
@[simp] theorem setInvert_nodeId (b : Bool) (s : State) : (setInvert b s).nodeId = s.nodeId := rfl
@[simp] theorem setInvert_dispFmt (b : Bool) (s : State) : (setInvert b s).dispFmt = s.dispFmt := rfl
@[simp] theorem setInvert_mode (b : Bool) (s : State) : (setInvert b s).mode = s.mode := rfl
@[simp] theorem setInvert_inv (b : Bool) (s : State) : (setInvert b s).inv = b := rfl
@[simp] theorem setInvert_txb (b : Bool) (s : State) : (setInvert b s).txb = s.txb := rfl
@[simp] theorem setInvert_run (b : Bool) (s : State) : (setInvert b s).run = s.run := rfl
@[simp] theorem setInvert_nv (b : Bool) (s : State) : (setInvert b s).nv = s.nv := rfl
@[simp] theorem setInvert_rxb (b : Bool) (s : State) : (setInvert b s).rxb = s.rxb := rfl
@[simp] theorem setInvert_txInFlight (b : Bool) (s : State) : (setInvert b s).txInFlight = s.txInFlight := rfl
@[simp] theorem setInvert_out (b : Bool) (s : State) : (setInvert b s).out = s.out ++ [.xcvrSetInvert b] := rfl
@[simp] theorem setInvert_pending (b : Bool) (s : State) : (setInvert b s).pending = s.pending := rfl
@[simp] theorem setInvert_cfg (b : Bool) (s : State) : (setInvert b s).cfg = s.cfg := rfl
@[simp] theorem setInvert_draws (b : Bool) (s : State) : (setInvert b s).draws = s.draws := rfl

@[simp] theorem setMode_cv (m : Mode) (s : State) : (setMode m s).cv = s.cv := rfl
@[simp] theorem setMode_stk (m : Mode) (s : State) : (setMode m s).stk = s.stk := rfl
@[simp] theorem setMode_top (m : Mode) (s : State) : (setMode m s).top = s.top := rfl
@[simp] theorem setMode_armed (m : Mode) (s : State) : (setMode m s).armed = s.armed := rfl
@[simp] theorem setMode_pdest (m : Mode) (s : State) : (setMode m s).pdest = s.pdest := rfl
@[simp] theorem setMode_plen (m : Mode) (s : State) : (setMode m s).plen = s.plen := rfl
@[simp] theorem setMode_nodeId (m : Mode) (s : State) : (setMode m s).nodeId = s.nodeId := rfl
@[simp] theorem setMode_dispFmt (m : Mode) (s : State) : (setMode m s).dispFmt = s.dispFmt := rfl
@[simp] theorem setMode_mode (m : Mode) (s : State) : (setMode m s).mode = m := rfl
@[simp] theorem setMode_inv (m : Mode) (s : State) : (setMode m s).inv = s.inv := rfl
@[simp] theorem setMode_txb (m : Mode) (s : State) : (setMode m s).txb = s.txb := rfl
@[simp] theorem setMode_run (m : Mode) (s : State) : (setMode m s).run = s.run := rfl
@[simp] theorem setMode_nv (m : Mode) (s : State) : (setMode m s).nv = s.nv := rfl
@[simp] theorem setMode_rxb (m : Mode) (s : State) : (setMode m s).rxb = s.rxb := rfl
@[simp] theorem setMode_txInFlight (m : Mode) (s : State) : (setMode m s).txInFlight = s.txInFlight := rfl
@[simp] theorem setMode_out (m : Mode) (s : State) : (setMode m s).out = s.out := rfl
@[simp] theorem setMode_pending (m : Mode) (s : State) : (setMode m s).pending = s.pending := rfl
@[simp] theorem setMode_cfg (m : Mode) (s : State) : (setMode m s).cfg = s.cfg := rfl
@[simp] theorem setMode_draws (m : Mode) (s : State) : (setMode m s).draws = s.draws := rfl

@[simp] theorem debugEcho_cv (s : State) : (debugEcho s).cv = s.cv := rfl
@[simp] theorem debugEcho_stk (s : State) : (debugEcho s).stk = s.stk := rfl
@[simp] theorem debugEcho_top (s : State) : (debugEcho s).top = s.top := rfl
@[simp] theorem debugEcho_armed (s : State) : (debugEcho s).armed = s.armed := rfl
@[simp] theorem debugEcho_pdest (s : State) : (debugEcho s).pdest = s.pdest := rfl
@[simp] theorem debugEcho_plen (s : State) : (debugEcho s).plen = s.plen := rfl
@[simp] theorem debugEcho_nodeId (s : State) : (debugEcho s).nodeId = s.nodeId := rfl
@[simp] theorem debugEcho_dispFmt (s : State) : (debugEcho s).dispFmt = s.dispFmt := rfl
@[simp] theorem debugEcho_mode (s : State) : (debugEcho s).mode = s.mode := rfl
@[simp] theorem debugEcho_inv (s : State) : (debugEcho s).inv = s.inv := rfl
@[simp] theorem debugEcho_txb (s : State) : (debugEcho s).txb = s.txb := rfl
@[simp] theorem debugEcho_run (s : State) : (debugEcho s).run = s.run := rfl
@[simp] theorem debugEcho_nv (s : State) : (debugEcho s).nv = s.nv := rfl
@[simp] theorem debugEcho_rxb (s : State) : (debugEcho s).rxb = s.rxb := rfl
@[simp] theorem debugEcho_txInFlight (s : State) : (debugEcho s).txInFlight = s.txInFlight := rfl
@[simp] theorem debugEcho_out (s : State) : (debugEcho s).out = s.out ++ [.conEcho (stackBytes s) s.cv] := rfl
@[simp] theorem debugEcho_pending (s : State) : (debugEcho s).pending = s.pending := rfl
@[simp] theorem debugEcho_cfg (s : State) : (debugEcho s).cfg = s.cfg := rfl
@[simp] theorem debugEcho_draws (s : State) : (debugEcho s).draws = s.draws := rfl

@[simp] theorem clearAcc_cv (s : State) : (clearAcc s).cv = 0 := rfl
@[simp] theorem clearAcc_stk (s : State) : (clearAcc s).stk = s.stk := rfl
@[simp] theorem clearAcc_top (s : State) : (clearAcc s).top = 0 := rfl
@[simp] theorem clearAcc_armed (s : State) : (clearAcc s).armed = s.armed := rfl
@[simp] theorem clearAcc_pdest (s : State) : (clearAcc s).pdest = s.pdest := rfl
@[simp] theorem clearAcc_plen (s : State) : (clearAcc s).plen = s.plen := rfl
@[simp] theorem clearAcc_nodeId (s : State) : (clearAcc s).nodeId = s.nodeId := rfl
@[simp] theorem clearAcc_dispFmt (s : State) : (clearAcc s).dispFmt = s.dispFmt := rfl
@[simp] theorem clearAcc_mode (s : State) : (clearAcc s).mode = s.mode := rfl
@[simp] theorem clearAcc_inv (s : State) : (clearAcc s).inv = s.inv := rfl
@[simp] theorem clearAcc_txb (s : State) : (clearAcc s).txb = s.txb := rfl
@[simp] theorem clearAcc_run (s : State) : (clearAcc s).run = s.run := rfl
@[simp] theorem clearAcc_nv (s : State) : (clearAcc s).nv = s.nv := rfl
@[simp] theorem clearAcc_rxb (s : State) : (clearAcc s).rxb = s.rxb := rfl
@[simp] theorem clearAcc_txInFlight (s : State) : (clearAcc s).txInFlight = s.txInFlight := rfl
@[simp] theorem clearAcc_out (s : State) : (clearAcc s).out = s.out := rfl
@[simp] theorem clearAcc_pending (s : State) : (clearAcc s).pending = s.pending := rfl
@[simp] theorem clearAcc_cfg (s : State) : (clearAcc s).cfg = s.cfg := rfl
@[simp] theorem clearAcc_draws (s : State) : (clearAcc s).draws = s.draws := rfl

@[simp] theorem armRequest_cv (s : State) : (armRequest s).cv = s.cv := rfl
@[simp] theorem armRequest_stk (s : State) : (armRequest s).stk = s.stk := rfl
@[simp] theorem armRequest_top (s : State) : (armRequest s).top = s.top := rfl
@[simp] theorem armRequest_armed (s : State) : (armRequest s).armed = true := rfl
@[simp] theorem armRequest_pdest (s : State) : (armRequest s).pdest = lowByte s.cv := rfl
@[simp] theorem armRequest_plen (s : State) : (armRequest s).plen = s.top := rfl
@[simp] theorem armRequest_nodeId (s : State) : (armRequest s).nodeId = s.nodeId := rfl
@[simp] theorem armRequest_dispFmt (s : State) : (armRequest s).dispFmt = s.dispFmt := rfl
@[simp] theorem armRequest_mode (s : State) : (armRequest s).mode = s.mode := rfl
@[simp] theorem armRequest_inv (s : State) : (armRequest s).inv = s.inv := rfl
@[simp] theorem armRequest_txb (s : State) :
    (armRequest s).txb =
      if s.cfg.bodyFromStack then Memory.writeList s.txb 1 ((stackBytes s).take Config.bodyMax) else s.txb := rfl
@[simp] theorem armRequest_run (s : State) : (armRequest s).run = s.run := rfl
@[simp] theorem armRequest_nv (s : State) : (armRequest s).nv = s.nv := rfl
@[simp] theorem armRequest_rxb (s : State) : (armRequest s).rxb = s.rxb := rfl
@[simp] theorem armRequest_txInFlight (s : State) : (armRequest s).txInFlight = s.txInFlight := rfl
@[simp] theorem armRequest_out (s : State) : (armRequest s).out = s.out := rfl
@[simp] theorem armRequest_pending (s : State) : (armRequest s).pending = s.pending := rfl
@[simp] theorem armRequest_cfg (s : State) : (armRequest s).cfg = s.cfg := rfl
@[simp] theorem armRequest_draws (s : State) : (armRequest s).draws = s.draws := rfl

@[simp] theorem setDisplayFormat_cv (s : State) : (setDisplayFormat s).cv = s.cv := rfl
@[simp] theorem setDisplayFormat_stk (s : State) : (setDisplayFormat s).stk = s.stk := rfl
@[simp] theorem setDisplayFormat_top (s : State) : (setDisplayFormat s).top = s.top := rfl
@[simp] theorem setDisplayFormat_armed (s : State) : (setDisplayFormat s).armed = s.armed := rfl
@[simp] theorem setDisplayFormat_pdest (s : State) : (setDisplayFormat s).pdest = s.pdest := rfl
@[simp] theorem setDisplayFormat_plen (s : State) : (setDisplayFormat s).plen = s.plen := rfl
@[simp] theorem setDisplayFormat_nodeId (s : State) : (setDisplayFormat s).nodeId = s.nodeId := rfl
@[simp] theorem setDisplayFormat_dispFmt (s : State) : (setDisplayFormat s).dispFmt = s.cv := rfl
@[simp] theorem setDisplayFormat_mode (s : State) : (setDisplayFormat s).mode = s.mode := rfl
@[simp] theorem setDisplayFormat_inv (s : State) : (setDisplayFormat s).inv = s.inv := rfl
@[simp] theorem setDisplayFormat_txb (s : State) : (setDisplayFormat s).txb = s.txb := rfl
@[simp] theorem setDisplayFormat_run (s : State) : (setDisplayFormat s).run = s.run := rfl
@[simp] theorem setDisplayFormat_nv (s : State) : (setDisplayFormat s).nv = s.nv := rfl
@[simp] theorem setDisplayFormat_rxb (s : State) : (setDisplayFormat s).rxb = s.rxb := rfl
@[simp] theorem setDisplayFormat_txInFlight (s : State) : (setDisplayFormat s).txInFlight = s.txInFlight := rfl
@[simp] theorem setDisplayFormat_out (s : State) : (setDisplayFormat s).out = s.out := rfl
@[simp] theorem setDisplayFormat_pending (s : State) : (setDisplayFormat s).pending = s.pending := rfl
@[simp] theorem setDisplayFormat_cfg (s : State) : (setDisplayFormat s).cfg = s.cfg := rfl
@[simp] theorem setDisplayFormat_draws (s : State) : (setDisplayFormat s).draws = s.draws := rfl

@[simp] theorem memWriteNodeId_cv (v : Byte) (s : State) : (memWriteNodeId v s).cv = s.cv := rfl
@[simp] theorem memWriteNodeId_stk (v : Byte) (s : State) : (memWriteNodeId v s).stk = s.stk := rfl
@[simp] theorem memWriteNodeId_top (v : Byte) (s : State) : (memWriteNodeId v s).top = s.top := rfl
@[simp] theorem memWriteNodeId_armed (v : Byte) (s : State) : (memWriteNodeId v s).armed = s.armed := rfl
@[simp] theorem memWriteNodeId_pdest (v : Byte) (s : State) : (memWriteNodeId v s).pdest = s.pdest := rfl
@[simp] theorem memWriteNodeId_plen (v : Byte) (s : State) : (memWriteNodeId v s).plen = s.plen := rfl
@[simp] theorem memWriteNodeId_nodeId (v : Byte) (s : State) : (memWriteNodeId v s).nodeId = s.nodeId := rfl
@[simp] theorem memWriteNodeId_dispFmt (v : Byte) (s : State) : (memWriteNodeId v s).dispFmt = s.dispFmt := rfl
@[simp] theorem memWriteNodeId_mode (v : Byte) (s : State) : (memWriteNodeId v s).mode = s.mode := rfl
@[simp] theorem memWriteNodeId_inv (v : Byte) (s : State) : (memWriteNodeId v s).inv = s.inv := rfl
@[simp] theorem memWriteNodeId_txb (v : Byte) (s : State) : (memWriteNodeId v s).txb = s.txb := rfl
@[simp] theorem memWriteNodeId_run (v : Byte) (s : State) : (memWriteNodeId v s).run = s.run := rfl
@[simp] theorem memWriteNodeId_nv (v : Byte) (s : State) :
    (memWriteNodeId v s).nv =
      Memory.write s.nv s.cfg.nvNodeIdAddr v := rfl
@[simp] theorem memWriteNodeId_rxb (v : Byte) (s : State) : (memWriteNodeId v s).rxb = s.rxb := rfl
@[simp] theorem memWriteNodeId_txInFlight (v : Byte) (s : State) :
    (memWriteNodeId v s).txInFlight =
      s.txInFlight := rfl
@[simp] theorem memWriteNodeId_out (v : Byte) (s : State) :
    (memWriteNodeId v s).out =
      s.out ++ [.nvWrite s.cfg.nvNodeIdAddr v] := rfl
@[simp] theorem memWriteNodeId_pending (v : Byte) (s : State) : (memWriteNodeId v s).pending = s.pending := rfl
@[simp] theorem memWriteNodeId_cfg (v : Byte) (s : State) : (memWriteNodeId v s).cfg = s.cfg := rfl
@[simp] theorem memWriteNodeId_draws (v : Byte) (s : State) : (memWriteNodeId v s).draws = s.draws := rfl

@[simp] theorem enterReceiveMode_cv (s : State) : (enterReceiveMode s).cv = s.cv := rfl
@[simp] theorem enterReceiveMode_stk (s : State) : (enterReceiveMode s).stk = s.stk := rfl
@[simp] theorem enterReceiveMode_top (s : State) : (enterReceiveMode s).top = s.top := rfl
@[simp] theorem enterReceiveMode_armed (s : State) : (enterReceiveMode s).armed = s.armed := rfl
@[simp] theorem enterReceiveMode_pdest (s : State) : (enterReceiveMode s).pdest = s.pdest := rfl
@[simp] theorem enterReceiveMode_plen (s : State) : (enterReceiveMode s).plen = s.plen := rfl
@[simp] theorem enterReceiveMode_nodeId (s : State) : (enterReceiveMode s).nodeId = s.nodeId := rfl
@[simp] theorem enterReceiveMode_dispFmt (s : State) : (enterReceiveMode s).dispFmt = s.dispFmt := rfl
@[simp] theorem enterReceiveMode_mode (s : State) : (enterReceiveMode s).mode = .receiving := rfl
@[simp] theorem enterReceiveMode_inv (s : State) : (enterReceiveMode s).inv = rxInv s.cfg.role := rfl
@[simp] theorem enterReceiveMode_txb (s : State) : (enterReceiveMode s).txb = s.txb := rfl
@[simp] theorem enterReceiveMode_run (s : State) : (enterReceiveMode s).run = s.run := rfl
@[simp] theorem enterReceiveMode_nv (s : State) : (enterReceiveMode s).nv = s.nv := rfl
@[simp] theorem enterReceiveMode_rxb (s : State) : (enterReceiveMode s).rxb = s.rxb := rfl
@[simp] theorem enterReceiveMode_txInFlight (s : State) : (enterReceiveMode s).txInFlight = s.txInFlight := rfl
@[simp] theorem enterReceiveMode_out (s : State) :
    (enterReceiveMode s).out =
      s.out ++ [.xcvrSetInvert (rxInv s.cfg.role)] ++ [.xcvrRxContinuous] := rfl
@[simp] theorem enterReceiveMode_pending (s : State) : (enterReceiveMode s).pending = s.pending := rfl
@[simp] theorem enterReceiveMode_cfg (s : State) : (enterReceiveMode s).cfg = s.cfg := rfl
@[simp] theorem enterReceiveMode_draws (s : State) : (enterReceiveMode s).draws = s.draws := rfl

@[simp] theorem enterTransmitMode_cv (s : State) : (enterTransmitMode s).cv = s.cv := rfl
@[simp] theorem enterTransmitMode_stk (s : State) : (enterTransmitMode s).stk = s.stk := rfl
@[simp] theorem enterTransmitMode_top (s : State) : (enterTransmitMode s).top = s.top := rfl
@[simp] theorem enterTransmitMode_armed (s : State) : (enterTransmitMode s).armed = s.armed := rfl
@[simp] theorem enterTransmitMode_pdest (s : State) : (enterTransmitMode s).pdest = s.pdest := rfl
@[simp] theorem enterTransmitMode_plen (s : State) : (enterTransmitMode s).plen = s.plen := rfl
@[simp] theorem enterTransmitMode_nodeId (s : State) : (enterTransmitMode s).nodeId = s.nodeId := rfl
@[simp] theorem enterTransmitMode_dispFmt (s : State) : (enterTransmitMode s).dispFmt = s.dispFmt := rfl
@[simp] theorem enterTransmitMode_mode (s : State) : (enterTransmitMode s).mode = .transmitting := rfl
@[simp] theorem enterTransmitMode_inv (s : State) : (enterTransmitMode s).inv = txInv s.cfg.role := rfl
@[simp] theorem enterTransmitMode_txb (s : State) : (enterTransmitMode s).txb = s.txb := rfl
@[simp] theorem enterTransmitMode_run (s : State) : (enterTransmitMode s).run = s.run := rfl
@[simp] theorem enterTransmitMode_nv (s : State) : (enterTransmitMode s).nv = s.nv := rfl
@[simp] theorem enterTransmitMode_rxb (s : State) : (enterTransmitMode s).rxb = s.rxb := rfl
@[simp] theorem enterTransmitMode_txInFlight (s : State) : (enterTransmitMode s).txInFlight = s.txInFlight := rfl
@[simp] theorem enterTransmitMode_out (s : State) :
    (enterTransmitMode s).out =
      s.out ++ [.xcvrIdle] ++ [.xcvrSetInvert (txInv s.cfg.role)] := rfl
@[simp] theorem enterTransmitMode_pending (s : State) : (enterTransmitMode s).pending = s.pending := rfl
@[simp] theorem enterTransmitMode_cfg (s : State) : (enterTransmitMode s).cfg = s.cfg := rfl
@[simp] theorem enterTransmitMode_draws (s : State) : (enterTransmitMode s).draws = s.draws := rfl

@[simp] theorem transmit_cv (n : Nat) (s : State) : (transmit n s).cv = s.cv := rfl
@[simp] theorem transmit_stk (n : Nat) (s : State) : (transmit n s).stk = s.stk := rfl
@[simp] theorem transmit_top (n : Nat) (s : State) : (transmit n s).top = s.top := rfl
@[simp] theorem transmit_armed (n : Nat) (s : State) : (transmit n s).armed = s.armed := rfl
@[simp] theorem transmit_pdest (n : Nat) (s : State) : (transmit n s).pdest = s.pdest := rfl
@[simp] theorem transmit_plen (n : Nat) (s : State) : (transmit n s).plen = s.plen := rfl
@[simp] theorem transmit_nodeId (n : Nat) (s : State) : (transmit n s).nodeId = s.nodeId := rfl
@[simp] theorem transmit_dispFmt (n : Nat) (s : State) : (transmit n s).dispFmt = s.dispFmt := rfl
@[simp] theorem transmit_mode (n : Nat) (s : State) : (transmit n s).mode = s.mode := rfl
@[simp] theorem transmit_inv (n : Nat) (s : State) : (transmit n s).inv = s.inv := rfl
@[simp] theorem transmit_txb (n : Nat) (s : State) : (transmit n s).txb = s.txb := rfl
@[simp] theorem transmit_run (n : Nat) (s : State) : (transmit n s).run = s.run := rfl
@[simp] theorem transmit_nv (n : Nat) (s : State) : (transmit n s).nv = s.nv := rfl
@[simp] theorem transmit_rxb (n : Nat) (s : State) : (transmit n s).rxb = s.rxb := rfl
@[simp] theorem transmit_txInFlight (n : Nat) (s : State) : (transmit n s).txInFlight = true := rfl
@[simp] theorem transmit_out (n : Nat) (s : State) :
    (transmit n s).out =
      s.out ++ [.xcvrTransmit (payloadBytes n s) n] := rfl
@[simp] theorem transmit_pending (n : Nat) (s : State) : (transmit n s).pending = s.pending := rfl
@[simp] theorem transmit_cfg (n : Nat) (s : State) : (transmit n s).cfg = s.cfg := rfl
@[simp] theorem transmit_draws (n : Nat) (s : State) : (transmit n s).draws = s.draws + n := rfl

@[simp] theorem drainRx_cv (n : Nat) (s : State) : (drainRx n s).cv = s.cv := rfl
@[simp] theorem drainRx_stk (n : Nat) (s : State) : (drainRx n s).stk = s.stk := rfl
@[simp] theorem drainRx_top (n : Nat) (s : State) : (drainRx n s).top = s.top := rfl
@[simp] theorem drainRx_armed (n : Nat) (s : State) : (drainRx n s).armed = s.armed := rfl
@[simp] theorem drainRx_pdest (n : Nat) (s : State) : (drainRx n s).pdest = s.pdest := rfl
@[simp] theorem drainRx_plen (n : Nat) (s : State) : (drainRx n s).plen = s.plen := rfl
@[simp] theorem drainRx_nodeId (n : Nat) (s : State) : (drainRx n s).nodeId = s.nodeId := rfl
@[simp] theorem drainRx_dispFmt (n : Nat) (s : State) : (drainRx n s).dispFmt = s.dispFmt := rfl
@[simp] theorem drainRx_mode (n : Nat) (s : State) : (drainRx n s).mode = s.mode := rfl
@[simp] theorem drainRx_inv (n : Nat) (s : State) : (drainRx n s).inv = s.inv := rfl
@[simp] theorem drainRx_txb (n : Nat) (s : State) : (drainRx n s).txb = s.txb := rfl
@[simp] theorem drainRx_run (n : Nat) (s : State) : (drainRx n s).run = s.run := rfl
@[simp] theorem drainRx_nv (n : Nat) (s : State) : (drainRx n s).nv = s.nv := rfl
@[simp] theorem drainRx_rxb (n : Nat) (s : State) : (drainRx n s).rxb = s.rxb.drop n := rfl
@[simp] theorem drainRx_txInFlight (n : Nat) (s : State) : (drainRx n s).txInFlight = s.txInFlight := rfl
@[simp] theorem drainRx_out (n : Nat) (s : State) : (drainRx n s).out = s.out := rfl
@[simp] theorem drainRx_pending (n : Nat) (s : State) : (drainRx n s).pending = s.pending := rfl
@[simp] theorem drainRx_cfg (n : Nat) (s : State) : (drainRx n s).cfg = s.cfg := rfl
@[simp] theorem drainRx_draws (n : Nat) (s : State) : (drainRx n s).draws = s.draws + (n - s.rxb.length) := rfl

@[simp] theorem noteStored_cv (v : Byte) (s : State) : (noteStored v s).cv = s.cv := rfl
@[simp] theorem noteStored_stk (v : Byte) (s : State) : (noteStored v s).stk = s.stk := rfl
@[simp] theorem noteStored_top (v : Byte) (s : State) : (noteStored v s).top = s.top := rfl
@[simp] theorem noteStored_armed (v : Byte) (s : State) : (noteStored v s).armed = s.armed := rfl
@[simp] theorem noteStored_pdest (v : Byte) (s : State) : (noteStored v s).pdest = s.pdest := rfl
@[simp] theorem noteStored_plen (v : Byte) (s : State) : (noteStored v s).plen = s.plen := rfl
@[simp] theorem noteStored_nodeId (v : Byte) (s : State) : (noteStored v s).nodeId = s.nodeId := rfl
@[simp] theorem noteStored_dispFmt (v : Byte) (s : State) : (noteStored v s).dispFmt = s.dispFmt := rfl
@[simp] theorem noteStored_mode (v : Byte) (s : State) : (noteStored v s).mode = s.mode := rfl
@[simp] theorem noteStored_inv (v : Byte) (s : State) : (noteStored v s).inv = s.inv := rfl
@[simp] theorem noteStored_txb (v : Byte) (s : State) : (noteStored v s).txb = s.txb := rfl
@[simp] theorem noteStored_run (v : Byte) (s : State) : (noteStored v s).run = s.run := rfl
@[simp] theorem noteStored_nv (v : Byte) (s : State) :
    (noteStored v s).nv =
      Memory.write s.nv s.cfg.nvNodeIdAddr v := rfl
@[simp] theorem noteStored_rxb (v : Byte) (s : State) : (noteStored v s).rxb = s.rxb := rfl
@[simp] theorem noteStored_txInFlight (v : Byte) (s : State) : (noteStored v s).txInFlight = s.txInFlight := rfl
@[simp] theorem noteStored_out (v : Byte) (s : State) : (noteStored v s).out = s.out := rfl
@[simp] theorem noteStored_pending (v : Byte) (s : State) : (noteStored v s).pending = s.pending := rfl
@[simp] theorem noteStored_cfg (v : Byte) (s : State) : (noteStored v s).cfg = s.cfg := rfl
@[simp] theorem noteStored_draws (v : Byte) (s : State) : (noteStored v s).draws = s.draws := rfl

@[simp] theorem clearAtBoot_cv (s : State) : (clearAtBoot s).cv = 0 := rfl
@[simp] theorem clearAtBoot_stk (s : State) : (clearAtBoot s).stk = s.stk := rfl
@[simp] theorem clearAtBoot_top (s : State) : (clearAtBoot s).top = 0 := rfl
@[simp] theorem clearAtBoot_armed (s : State) : (clearAtBoot s).armed = false := rfl
@[simp] theorem clearAtBoot_pdest (s : State) : (clearAtBoot s).pdest = s.pdest := rfl
@[simp] theorem clearAtBoot_plen (s : State) : (clearAtBoot s).plen = s.plen := rfl
@[simp] theorem clearAtBoot_nodeId (s : State) : (clearAtBoot s).nodeId = s.nodeId := rfl
@[simp] theorem clearAtBoot_dispFmt (s : State) : (clearAtBoot s).dispFmt = s.cfg.dispFmtReset := rfl
@[simp] theorem clearAtBoot_mode (s : State) : (clearAtBoot s).mode = s.mode := rfl
@[simp] theorem clearAtBoot_inv (s : State) : (clearAtBoot s).inv = s.inv := rfl
@[simp] theorem clearAtBoot_txb (s : State) : (clearAtBoot s).txb = s.txb := rfl
@[simp] theorem clearAtBoot_run (s : State) : (clearAtBoot s).run = s.run := rfl
@[simp] theorem clearAtBoot_nv (s : State) : (clearAtBoot s).nv = s.nv := rfl
@[simp] theorem clearAtBoot_rxb (s : State) : (clearAtBoot s).rxb = s.rxb := rfl
@[simp] theorem clearAtBoot_txInFlight (s : State) : (clearAtBoot s).txInFlight = s.txInFlight := rfl
@[simp] theorem clearAtBoot_out (s : State) : (clearAtBoot s).out = s.out := rfl
@[simp] theorem clearAtBoot_pending (s : State) : (clearAtBoot s).pending = s.pending := rfl
@[simp] theorem clearAtBoot_cfg (s : State) : (clearAtBoot s).cfg = s.cfg := rfl
@[simp] theorem clearAtBoot_draws (s : State) : (clearAtBoot s).draws = s.draws := rfl

@[simp] theorem initTransceiver_cv (s : State) : (initTransceiver s).cv = s.cv := rfl
@[simp] theorem initTransceiver_stk (s : State) : (initTransceiver s).stk = s.stk := rfl
@[simp] theorem initTransceiver_top (s : State) : (initTransceiver s).top = s.top := rfl
@[simp] theorem initTransceiver_armed (s : State) : (initTransceiver s).armed = s.armed := rfl
@[simp] theorem initTransceiver_pdest (s : State) : (initTransceiver s).pdest = s.pdest := rfl
@[simp] theorem initTransceiver_plen (s : State) : (initTransceiver s).plen = s.plen := rfl
@[simp] theorem initTransceiver_nodeId (s : State) : (initTransceiver s).nodeId = s.nodeId := rfl
@[simp] theorem initTransceiver_dispFmt (s : State) : (initTransceiver s).dispFmt = s.dispFmt := rfl
@[simp] theorem initTransceiver_mode (s : State) : (initTransceiver s).mode = s.mode := rfl
@[simp] theorem initTransceiver_inv (s : State) : (initTransceiver s).inv = s.inv := rfl
@[simp] theorem initTransceiver_txb (s : State) : (initTransceiver s).txb = s.txb := rfl
@[simp] theorem initTransceiver_run (s : State) : (initTransceiver s).run = s.run := rfl
@[simp] theorem initTransceiver_nv (s : State) : (initTransceiver s).nv = s.nv := rfl
@[simp] theorem initTransceiver_rxb (s : State) : (initTransceiver s).rxb = s.rxb := rfl
@[simp] theorem initTransceiver_txInFlight (s : State) : (initTransceiver s).txInFlight = false := rfl
@[simp] theorem initTransceiver_out (s : State) :
    (initTransceiver s).out =
      s.out ++ [.xcvrInit s.cfg.channelFreq] := rfl
@[simp] theorem initTransceiver_pending (s : State) : (initTransceiver s).pending = s.pending := rfl
@[simp] theorem initTransceiver_cfg (s : State) : (initTransceiver s).cfg = s.cfg := rfl
@[simp] theorem initTransceiver_draws (s : State) : (initTransceiver s).draws = s.draws := rfl

@[simp] theorem powerOn_cv (s : State) : (powerOn s).cv = State.reset.cv := rfl
@[simp] theorem powerOn_stk (s : State) : (powerOn s).stk = State.reset.stk := rfl
@[simp] theorem powerOn_top (s : State) : (powerOn s).top = State.reset.top := rfl
@[simp] theorem powerOn_armed (s : State) : (powerOn s).armed = State.reset.armed := rfl
@[simp] theorem powerOn_pdest (s : State) : (powerOn s).pdest = State.reset.pdest := rfl
@[simp] theorem powerOn_plen (s : State) : (powerOn s).plen = State.reset.plen := rfl
@[simp] theorem powerOn_nodeId (s : State) : (powerOn s).nodeId = State.reset.nodeId := rfl
@[simp] theorem powerOn_dispFmt (s : State) : (powerOn s).dispFmt = State.reset.dispFmt := rfl
@[simp] theorem powerOn_mode (s : State) : (powerOn s).mode = State.reset.mode := rfl
@[simp] theorem powerOn_inv (s : State) : (powerOn s).inv = State.reset.inv := rfl
@[simp] theorem powerOn_txb (s : State) : (powerOn s).txb = State.reset.txb := rfl
@[simp] theorem powerOn_run (s : State) : (powerOn s).run = State.reset.run := rfl
@[simp] theorem powerOn_nv (s : State) : (powerOn s).nv = s.nv := rfl
@[simp] theorem powerOn_rxb (s : State) : (powerOn s).rxb = State.reset.rxb := rfl
@[simp] theorem powerOn_txInFlight (s : State) : (powerOn s).txInFlight = State.reset.txInFlight := rfl
@[simp] theorem powerOn_out (s : State) : (powerOn s).out = s.out := rfl
@[simp] theorem powerOn_pending (s : State) : (powerOn s).pending = s.pending := rfl
@[simp] theorem powerOn_cfg (s : State) : (powerOn s).cfg = s.cfg := rfl
@[simp] theorem powerOn_draws (s : State) : (powerOn s).draws = s.draws := rfl

end Sys2Proof.Machine
end

