-- ==== Sys2Proof/Laws/Ops.lean ====
section
/-!
SUPPORT. For each shared operation one lemma that says everything it can do.
-/

namespace Sys2Proof.Machine

/-! The phase -/

theorem whenRunning_of_running {s : State} (e : Host.Outcome State Fault Refusal) (h : s.run = .running) :
    whenRunning s e = e := by
  simp [whenRunning, h]

theorem whenRunning_of_not_running {s : State} (e : Host.Outcome State Fault Refusal) (h : s.run ≠ .running) :
    whenRunning s e = .next s := by
  unfold whenRunning
  split <;> simp_all

/-- What an instruction that answers a next state did. -/
theorem whenRunning_next {s t : State} {e : Host.Outcome State Fault Refusal} (h : whenRunning s e = .next t) :
    (s.run = .running ∧ e = .next t) ∨ (s.run ≠ .running ∧ t = s) := by
  by_cases hr : s.run = .running
  · exact .inl ⟨hr, by rwa [whenRunning_of_running e hr] at h⟩
  · rw [whenRunning_of_not_running e hr] at h
    exact .inr ⟨hr, by cases h; rfl⟩

/-- An instruction that faults does so while `Running`. -/
theorem whenRunning_fault {s : State} {e : Host.Outcome State Fault Refusal} {f : Fault}
    (h : whenRunning s e = .fault f) : s.run = .running ∧ e = .fault f := by
  by_cases hr : s.run = .running
  · exact ⟨hr, by rwa [whenRunning_of_running e hr] at h⟩
  · rw [whenRunning_of_not_running e hr] at h
    cases h

/-! Operands -/

theorem stackBytes_length_le (s : State) : (stackBytes s).length ≤ Config.stackCap := by
  simp [stackBytes, List.length_take]

theorem lowByte_eq (v : Word16) : lowByte v = BitVec.ofNat 8 (v.toNat % 256) := by
  apply BitVec.eq_of_toNat_eq
  simp [lowByte]

/-- The mask of command `n` keeps the low six bits (R105). -/
theorem lowByte_masked (v : Word16) : (lowByte (v &&& Config.nodeIdMask)).toNat = v.toNat % 64 := by
  have h : (v &&& Config.nodeIdMask).toNat = v.toNat % 64 := by
    simp only [Config.nodeIdMask, BitVec.toNat_and]
    exact Nat.and_two_pow_sub_one_eq_mod v.toNat 6
  simp only [lowByte, BitVec.toNat_setWidth, h]
  omega

/-! The accumulator and the stack -/

theorem accumulate_eq (d : BitVec 4) (s : State) :
    accumulate d s = { s with cv := BitVec.ofNat 16 (s.cv.toNat * 10 + d.toNat) } := by
  unfold accumulate digitOperand Config.radix
  congr 1
  apply BitVec.eq_of_toNat_eq
  simp

theorem pushValue_of_room {s : State} (h : s.top.toNat < 14) :
    pushValue s =
      { s with stk := s.stk.setIfInBounds s.top.toNat (lowByte s.cv), top := s.top + 1, cv := 0 } := if_pos h

theorem pushValue_of_full {s : State} (h : 14 ≤ s.top.toNat) : pushValue s = { s with cv := 0 } :=
  if_neg (Nat.not_lt.mpr h)

/-! The link -/

theorem enterReceiveMode_eq (s : State) :
    enterReceiveMode s =
      { s with
        mode := .receiving, inv := rxInv s.cfg.role
        out := s.out ++ [.xcvrSetInvert (rxInv s.cfg.role), .xcvrRxContinuous] } := by
  simp [enterReceiveMode, setMode, setInvert, emit]

theorem enterTransmitMode_eq (s : State) :
    enterTransmitMode s =
      { s with
        mode := .transmitting, inv := txInv s.cfg.role
        out := s.out ++ [.xcvrIdle, .xcvrSetInvert (txInv s.cfg.role)] } := by
  simp [enterTransmitMode, setMode, setInvert, emit]

@[simp] theorem payloadBytes_length (n : Nat) (s : State) : (payloadBytes n s).length = n := by
  simp [payloadBytes]

/-- A byte some rule wrote is transmitted as written. -/
theorem payloadBytes_getElem? {n k : Nat} {s : State} {b : Byte} (hk : k < n) (h : Memory.read s.txb k = some b) :
    (payloadBytes n s)[k]? = some b := by
  simp [payloadBytes, hk, h]

/-- `Send` answers a next state exactly within the wire bound. -/
theorem send_next {n : Nat} {s t : State} :
    send n s = .next t ↔ n ≤ 10 ∧ t = transmit n (enterTransmitMode s) := by
  by_cases h : n > 10
  · simp [send, h]
  · simp [send, h, Nat.not_lt.mp h, eq_comm]

/-- `Send` faults exactly above the wire bound. -/
theorem send_fault {n : Nat} {s : State} {f : Fault} :
    send n s = .fault f ↔ 10 < n ∧ f = .txLengthViolation n := by
  by_cases h : n > 10
  · simp [send, h, eq_comm]
  · simp [send, h]

theorem send_not_refused (n : Nat) (s : State) (r : Refusal) : send n s ≠ .refused r := by
  unfold send
  split <;> simp

/-- A TICK sends exactly when a request is armed and the policy lets it go. -/
theorem tickAction_send (s : State) :
    tickAction s = .send ↔ s.armed = true ∧ (s.mode = .receiving ∨ s.cfg.sendWhileTx = .reissue) := by
  unfold tickAction
  cases s.armed <;> cases s.mode <;> cases s.cfg.sendWhileTx <;> simp

/-- A TICK discards exactly under `Drop` while transmitting. -/
theorem tickAction_discard (s : State) :
    tickAction s = .discard ↔ s.armed = true ∧ s.mode = .transmitting ∧ s.cfg.sendWhileTx = .drop := by
  unfold tickAction
  cases s.armed <;> cases s.mode <;> cases s.cfg.sendWhileTx <;> simp

/-- What a TICK that answers a next state did: nothing, a discard, or a send within the wire bound. -/
theorem exec_evTick_next {s t : State} (h : exec .evTick s = .next t) :
    t = s ∨
      (s.run = .running ∧ s.armed = true ∧ s.mode = .transmitting ∧ s.cfg.sendWhileTx = .drop ∧
        t = { s with armed := false }) ∨
      (s.run = .running ∧ s.armed = true ∧ (s.mode = .receiving ∨ s.cfg.sendWhileTx = .reissue) ∧
        sendLength s ≤ 10 ∧
        t = transmit (sendLength s)
          (enterTransmitMode { s with armed := false, txb := Memory.write s.txb 0 s.pdest })) := by
  rcases whenRunning_next h with ⟨hr, h⟩ | ⟨_, rfl⟩
  · split at h
    · rename_i ha
      obtain ⟨hArmed, hMode⟩ := (tickAction_send s).mp ha
      obtain ⟨hLen, rfl⟩ := send_next.mp h
      exact .inr (.inr ⟨hr, hArmed, hMode, hLen, rfl⟩)
    · rename_i ha
      obtain ⟨hArmed, hMode, hDrop⟩ := (tickAction_discard s).mp ha
      cases h
      exact .inr (.inl ⟨hr, hArmed, hMode, hDrop, rfl⟩)
    · cases h
      exact .inl rfl
  · exact .inl rfl

/-! Received packets -/

@[simp] theorem receivedBytes_length (n : Nat) (s : State) : (receivedBytes n s).length = n := by
  simp [receivedBytes]
  omega

/-- A byte the environment supplied is received as it is. -/
theorem receivedBytes_getElem? {n k : Nat} (s : State) (hn : k < n) (hk : k < s.rxb.length) :
    (receivedBytes n s)[k]? = s.rxb[k]? := by
  rw [receivedBytes, List.getElem?_append_left (by simp; omega), List.getElem?_take_of_lt hn]

/-! Boot -/

/-- What `ConfigLoad` does with the byte it reads. -/
theorem configLoad_cases (b : Byte) (s : State) :
    ((memReadNodeId b s).toNat < 1 ∨ 7 < (memReadNodeId b s).toNat) ∧
        configLoad b s = memWriteNodeId 1 { s with nodeId := 1 } ∨
      (1 ≤ (memReadNodeId b s).toNat ∧ (memReadNodeId b s).toNat ≤ 7) ∧
        configLoad b s = noteStored (memReadNodeId b s) { s with nodeId := memReadNodeId b s } := by
  by_cases h : (memReadNodeId b s).toNat < Config.nodeIdMin ∨ (memReadNodeId b s).toNat > Config.nodeIdMax
  · exact .inl ⟨h, if_pos h⟩
  · refine .inr ⟨?_, if_neg h⟩
    simp only [Config.nodeIdMin, Config.nodeIdMax] at h
    omega

theorem bootProcedure_failed (b : Byte) (s : State) :
    bootProcedure false b s =
      haltAfterInitFailure
        (initTransceiver (if s.cfg.bootLoadBeforeInit then configLoad b (clearAtBoot s) else clearAtBoot s)) := rfl

theorem bootProcedure_loadFirst (b : Byte) (s : State) (h : s.cfg.bootLoadBeforeInit = true) :
    bootProcedure true b s = startRunning (initTransceiver (configLoad b (clearAtBoot s))) := by
  simp [bootProcedure, h]

theorem bootProcedure_initFirst (b : Byte) (s : State) (h : s.cfg.bootLoadBeforeInit = false) :
    bootProcedure true b s = startRunning (configLoad b (initTransceiver (clearAtBoot s))) := by
  simp [bootProcedure, h]

/-! Steps -/

theorem step_idle {s : State} (h : s.pending = []) : step s = .next s := by
  simp [step, h]

theorem step_consoleReady {s : State} {ok : Bool} {b : Byte} {rest : List Stimulus}
    (h : s.pending = .consoleReady ok b :: rest) : step s = .next (consoleReady ok b { s with pending := rest }) := by
  simp [step, h]

theorem step_powerCycle {s : State} {rest : List Stimulus} (h : s.pending = .powerCycle :: rest) :
    step s = .next (powerOn { s with pending := rest }) := by
  simp [step, h]

theorem consoleReady_booting {s : State} (ok : Bool) (b : Byte) (h : s.run = .booting) :
    consoleReady ok b s = bootProcedure ok b s := by
  simp [consoleReady, h]

/-- A step on the console's readiness runs boot to its end. -/
theorem step_boot {s : State} {ok : Bool} {b : Byte} {rest : List Stimulus} (h : s.run = .booting)
    (hp : s.pending = .consoleReady ok b :: rest) : step s = .next (bootProcedure ok b { s with pending := rest }) := by
  rw [step_consoleReady hp, consoleReady_booting (s := { s with pending := rest }) ok b h]

theorem consoleReady_not_booting {s : State} (ok : Bool) (b : Byte) (h : s.run ≠ .booting) :
    consoleReady ok b s = s := by
  unfold consoleReady
  split <;> simp_all

end Sys2Proof.Machine
end

