-- ==== Sys2Proof/Laws/PerInstr.lean ====
section
/-!
SUPPORT. Statements about every instruction, one lemma per constructor.
-/

namespace Sys2Proof.Laws

/-- The word of an instruction carries the instruction's kind in bits 9:8 (spec/30_encoding.md R70). -/
def EncodesKind.Statement (i : Instr) : Prop := wordKind (encode i) = i.kind

theorem EncodesKind.digit (d : BitVec 4) : EncodesKind.Statement (.digit d) := by
  revert d; unfold EncodesKind.Statement; decide

theorem EncodesKind.push : EncodesKind.Statement .push := by
  unfold EncodesKind.Statement; decide

theorem EncodesKind.cmdS : EncodesKind.Statement .cmdS := by
  unfold EncodesKind.Statement; decide

theorem EncodesKind.cmdN : EncodesKind.Statement .cmdN := by
  unfold EncodesKind.Statement; decide

theorem EncodesKind.cmdX : EncodesKind.Statement .cmdX := by
  unfold EncodesKind.Statement; decide

theorem EncodesKind.cmdV : EncodesKind.Statement .cmdV := by
  unfold EncodesKind.Statement; decide

theorem EncodesKind.cmdH : EncodesKind.Statement .cmdH := by
  unfold EncodesKind.Statement; decide

/-- The `kind` of a word put together from a kind and an argument. -/
theorem wordKind_eventWord (k : EventKind) (arg : Byte) : wordKind (eventWord k arg) = k := by
  have h (n : BitVec 2) : (n ++ arg).extractLsb' 8 2 = n := BitVec.extractLsb'_append_eq_left
  cases k <;> simp [wordKind, eventWord, h]

theorem EncodesKind.cmdLowerNop (c : Byte) : EncodesKind.Statement (.cmdLowerNop c) := wordKind_eventWord _ _

theorem EncodesKind.charOther (c : Byte) : EncodesKind.Statement (.charOther c) := wordKind_eventWord _ _

theorem EncodesKind.charBlank (c : Byte) : EncodesKind.Statement (.charBlank c) := wordKind_eventWord _ _

theorem EncodesKind.evTxdone : EncodesKind.Statement .evTxdone := by
  unfold EncodesKind.Statement; decide

theorem EncodesKind.evRxdone (size : Byte) : EncodesKind.Statement (.evRxdone size) := wordKind_eventWord _ _

theorem EncodesKind.evTick : EncodesKind.Statement .evTick := by
  unfold EncodesKind.Statement; decide

end Sys2Proof.Laws
end

