-- ==== Sys2Proof/Tests/Slice0.lean ====
section
/-!
SUPPORT. Tests of the model against spec/95_test_vectors.md and spec/30_encoding.md, and for every obligation with
hypotheses a witness that meets them.
-/

namespace Sys2Proof.Tests

open Sys2Proof.Machine Sys2Proof.Safety

/-- The default parameters with two numbers for the OPEN ones. -/
def params : Params := { Params.default with nvNodeIdAddr := 5, channelFreq := 868 }

/-- The start state of spec/95_test_vectors.md: booted, persisted byte 1, trace taken as empty. -/
def booted : State := { State.reset with run := .running, nv := [(5, 1)], cfg := params }

/-- The next state, if there is one. -/
def nextOf (o : Host.Outcome State Fault Refusal) : Option State :=
  match o with
  | .next t => some t
  | .fault _ => none
  | .refused _ => none

/-- The fault, if there is one. -/
def faultOf (o : Host.Outcome State Fault Refusal) : Option Fault :=
  match o with
  | .next _ => none
  | .fault f => some f
  | .refused _ => none

/-- A state with these bytes pushed, first pushed first. -/
def withStack (bytes : List Byte) (s : State) : State :=
  { s with
    stk := Vector.ofFn fun i : Fin 14 => bytes.getD i.val 0
    top := BitVec.ofNat 8 bytes.length }

/-- Transmitting, with a transmission in flight, as a Gateway. -/
def transmitting : State := { booted with mode := .transmitting, inv := true, txInFlight := true }

/-! Ill-formed terms are refused -/

theorem test_wf_refuses_digit_ten : (Instr.digit 10).wf = false := by decide
theorem test_wf_refuses_command_letter_as_nop : (Instr.cmdLowerNop 0x73).wf = false := by decide
theorem test_wf_refuses_uppercase_as_nop : (Instr.cmdLowerNop 0x53).wf = false := by decide
theorem test_wf_refuses_digit_as_other : (Instr.charOther 0x30).wf = false := by decide
theorem test_wf_refuses_comma_as_other : (Instr.charOther 0x2C).wf = false := by decide
theorem test_wf_refuses_letter_as_other : (Instr.charOther 0x61).wf = false := by decide
theorem test_wf_refuses_blank_as_other : (Instr.charOther 0x20).wf = false := by decide
theorem test_wf_refuses_bang_as_blank : (Instr.charBlank 0x21).wf = false := by decide

/-! One word per constructor, `kind` then `arg`, written from spec/30_encoding.md R70, R72, R73, R75 -/

theorem test_decode_digit : decode 0b0000110101#10 = .digit 5 := by decide
theorem test_decode_push : decode 0b0000101100#10 = .push := by decide
theorem test_decode_cmdS : decode 0b0001110011#10 = .cmdS := by decide
theorem test_decode_cmdN : decode 0b0001101110#10 = .cmdN := by decide
theorem test_decode_cmdX : decode 0b0001111000#10 = .cmdX := by decide
theorem test_decode_cmdV : decode 0b0001110110#10 = .cmdV := by decide
theorem test_decode_cmdH : decode 0b0001101000#10 = .cmdH := by decide
theorem test_decode_cmdLowerNop : decode 0b0001110001#10 = .cmdLowerNop 0x71 := by decide
theorem test_decode_charOther : decode 0b0001010011#10 = .charOther 0x53 := by decide
theorem test_decode_charBlank : decode 0b0000001101#10 = .charBlank 0x0D := by decide
theorem test_decode_evTxdone : decode 0b0110100101#10 = .evTxdone := by decide
theorem test_decode_evRxdone : decode 0b1000001010#10 = .evRxdone 10 := by decide
theorem test_decode_evTick : decode 0b1100000000#10 = .evTick := by decide

/-- The borders of the classes (V6). -/
theorem test_decode_borders :
    decode 0x02B = .charOther 0x2B ∧ decode 0x02D = .charOther 0x2D ∧ decode 0x02F = .charOther 0x2F ∧
    decode 0x030 = .digit 0 ∧ decode 0x039 = .digit 9 ∧ decode 0x03A = .charOther 0x3A ∧
    decode 0x060 = .charOther 0x60 ∧ decode 0x07F = .charOther 0x7F ∧ decode 0x080 = .charOther 0x80 ∧
    decode 0x200 = .evRxdone 0 := by decide

/-- There is no eleventh bit. -/
theorem test_decode_number_1024 : decodeTableWord 16 1024 = none := by decide
theorem test_decode_number_1023 : decodeTableWord 16 1023 = some .evTick := by decide

/-! One step of each instruction: V1 to V4, S1 to S4 -/

theorem test_digit_largest : (nextOf (exec (.digit 5) { booted with cv := 6553 })).map State.cv = some 65535 := by decide
theorem test_digit_wraps : (nextOf (exec (.digit 0) { booted with cv := 6554 })).map State.cv = some 4 := by decide

theorem test_push_truncates :
    (nextOf (exec .push { booted with cv := 300 })).map (fun t => (stackBytes t, t.cv)) = some ([44], 0) := by decide
theorem test_push_on_full_stack :
    (nextOf (exec .push { booted with cv := 99, top := 14 })).map (fun t => (t.stk, t.top, t.cv)) =
      some (booted.stk, 14, 0) := by decide

theorem test_cmdS_scenario_a :
    (nextOf (exec .cmdS { withStack [5, 10] booted with cv := 3 })).map
        (fun t => (t.armed, t.pdest, t.plen, t.out)) =
      some (true, 3, 2, [.conEcho [5, 10] 3]) := by decide
theorem test_cmdS_body_from_stack :
    (nextOf (exec .cmdS { withStack [5, 10] booted with cv := 3, cfg := { params with bodyFromStack := true } })).map
        State.txb = some [(1, 5), (2, 10)] := by decide

theorem test_cmdN_scenario_b :
    (nextOf (exec .cmdN { booted with cv := 9 })).map (fun t => (t.nodeId, t.nv, t.out)) =
      some (9, [(5, 9)], [.conEcho [] 9, .nvWrite 5 9]) := by decide
theorem test_cmdN_masks : (nextOf (exec .cmdN { booted with cv := 4464 })).map State.nodeId = some 48 := by decide

theorem test_cmdX_keeps_sixteen_bits :
    (nextOf (exec .cmdX { booted with cv := 0x1234 })).map State.dispFmt = some 0x1234 := by decide
theorem test_cmdX_persists_nothing :
    (nextOf (exec .cmdX { booted with cv := 2 })).map (fun t => (t.nv, t.out)) =
      some ([(5, 1)], [.conEcho [] 2]) := by decide

theorem test_cmdV :
    (nextOf (exec .cmdV { withStack [1, 2] booted with cv := 12 })).map (fun t => (t.out, t.cv, t.top)) =
      some ([.conEcho [1, 2] 12, .conIdent], 0, 0) := by decide
theorem test_cmdH :
    (nextOf (exec .cmdH { booted with nodeId := 5 })).map State.out = some [.conEcho [] 0, .conHelp 5] := by decide

theorem test_cmdLowerNop :
    (nextOf (exec (.cmdLowerNop 0x71) { withStack [4] booted with cv := 7 })).map (fun t => (t.out, t.cv, t.top)) =
      some ([.conEcho [4] 7], 0, 0) := by decide

theorem test_charOther :
    (nextOf (exec (.charOther 0x21) { withStack [5] booted with cv := 6 })).map (fun t => (t.out, t.cv, t.top)) =
      some ([], 0, 0) := by decide

theorem test_charBlank :
    (nextOf (exec (.charBlank 0x0D) { withStack [1] booted with cv := 5 })).map (fun t => (t.out, t.cv, t.top)) =
      some ([], 0, 0) := by decide

theorem test_evTxdone :
    (nextOf (exec .evTxdone transmitting)).map (fun t => (t.mode, t.inv, t.out)) =
      some (.receiving, false, [.conTxDoneLog, .xcvrSetInvert false, .xcvrRxContinuous]) := by decide
theorem test_evTxdone_node :
    (nextOf (exec .evTxdone
        { booted with mode := .transmitting, inv := false, cfg := { params with role := .node } })).map State.inv =
      some true := by decide

theorem test_evRxdone_scenario_c :
    (nextOf (exec (.evRxdone 1) { booted with dispFmt := 1, rxb := [0xAB] })).map (fun t => (t.out, t.rxb)) =
      some ([.conRxReport 1 [0xAB]], []) := by decide
theorem test_evRxdone_scenario_d :
    (nextOf (exec (.evRxdone 11) { booted with rxb := List.replicate 11 7 })).map (fun t => (t.out, t.rxb.length)) =
      some ([.conRxError], 11) := by decide

theorem test_evTick_body_from_stack :
    (nextOf (exec .evTick
        { booted with armed := true, pdest := 3, plen := 2, txb := [(1, 5), (2, 10)] })).map
        (fun t => (t.armed, t.mode, t.inv, t.out)) =
      some (false, .transmitting, true, [.xcvrIdle, .xcvrSetInvert true, .xcvrTransmit [3, 5, 10] 3]) := by decide
theorem test_evTick_overlong :
    faultOf (exec .evTick { booted with armed := true, pdest := 3, plen := 10 }) = some (.txLengthViolation 11) := by
  decide

/-! Boot (V5), and a step through the fetch -/

theorem test_boot_repairs :
    (nextOf (step { State.reset with pending := [.consoleReady true 9], cfg := params })).map
        (fun t => (t.nodeId, t.nv, t.out)) =
      some (1, [(5, 1)], [.nvWrite 5 1, .xcvrInit 868, .xcvrSetInvert false, .xcvrRxContinuous]) := by decide
theorem test_boot_fails_before_load :
    (nextOf (step
        { State.reset with
          pending := [.consoleReady false 0], cfg := { params with bootLoadBeforeInit := false } })).map
        (fun t => (t.run, t.nv, t.out)) =
      some (.halted, [], [.xcvrInit 868, .conInitFail]) := by decide
theorem test_first_instruction_after_reset :
    (nextOf (step (State.reset.withFetchWord 16 0x039))).map (fun t => (t.run, t.cv, t.pending)) =
      some (.running, 9, []) := by decide
theorem test_rxdone_brings_its_bytes :
    (nextOf (step { booted with pending := [.event 0x202 [1, 2]] })).map (fun t => (t.out, t.rxb)) =
      some ([.conRxReport 0 [1, 2]], []) := by decide

/-! Rendering (S3) -/

theorem test_hex_rendering : byteText 1 0xAB = [0x41, 0x42] := by decide
theorem test_decimal_rendering : byteText 0 0xAB = [0x20, 0x31, 0x37, 0x31] := by decide

theorem test_hex_report : consoleText (.conRxReport 1 [0xAB]) = some ([0x41, 0x42] ++ Config.reportEnd 1) := rfl
theorem test_decimal_report :
    consoleText (.conRxReport 0 [0xAB]) = some ([0x20, 0x31, 0x37, 0x31] ++ Config.reportEnd 0) := rfl

/-! Witnesses: states and operands that meet the hypotheses of the obligations, each clause at its borders -/

theorem witness_DecodeOfEncode :
    (Instr.digit 0).wf = true ∧ (Instr.digit 9).wf = true ∧ (Instr.cmdLowerNop 0x61).wf = true ∧
    (Instr.cmdLowerNop 0x7A).wf = true ∧ (Instr.charOther 0x21).wf = true ∧ (Instr.charOther 0xFF).wf = true ∧
    (Instr.charBlank 0x00).wf = true ∧ (Instr.charBlank 0x20).wf = true ∧ (Instr.evRxdone 0xFF).wf = true := by decide

theorem witness_DigitAccumulates : (0 : BitVec 4).toNat ≤ 9 ∧ (9 : BitVec 4).toNat ≤ 9 ∧ booted.run = .running := by
  decide

theorem witness_DigitRunReadsDecimal : booted.run = .running ∧ booted.cv = 0 := by decide

theorem witness_PushStoresLowByte :
    booted.run = .running ∧ ({ booted with top := 13 } : State).top.toNat < 14 ∧
    14 ≤ ({ booted with top := 14 } : State).top.toNat := by decide

theorem witness_ArgumentListFillsStack : booted.run = .running ∧ booted.cv = 0 ∧ booted.top = 0 := by decide

/-- Both values of the parameter, and a body byte at each border of the clause. -/
theorem witness_CommandSArmsRequest :
    booted.run = .running ∧ booted.cfg.bodyFromStack = false ∧
    ({ params with bodyFromStack := true } : Params).bodyFromStack = true ∧
    (1 ≤ 1 ∧ 1 ≤ min ({ booted with top := 1 } : State).top.toNat 9) ∧
    (1 ≤ 9 ∧ 9 ≤ min ({ booted with top := 14 } : State).top.toNat 9) ∧
    ¬(1 ≤ 10 ∧ 10 ≤ min ({ booted with top := 14 } : State).top.toNat 9) := by decide

theorem witness_CommandNSetsAndPersistsNodeId :
    ({ booted with cv := 64 } : State).run = .running ∧ 5 = booted.cfg.nvNodeIdAddr ∧ 6 ≠ booted.cfg.nvNodeIdAddr := by
  decide

theorem witness_CommandXSetsDisplayFormat : ({ booted with cv := 65535 } : State).run = .running := by decide

theorem witness_CommandVIdentifies : (withStack [1, 2] booted).run = .running := by decide

theorem witness_CommandHShowsNodeId : ({ booted with nodeId := 63 } : State).run = .running := by decide

theorem witness_OtherLettersEchoAndClear :
    ∀ c ∈ [0x61#8, 0x67#8, 0x69#8, 0x7A#8],
      0x61 ≤ c.toNat ∧ c.toNat ≤ 0x7A ∧ c.toNat ∉ [0x68, 0x6E, 0x73, 0x76, 0x78] := by decide

theorem witness_OtherCharactersClear :
    (∀ c ∈ [0x21#8, 0x2B#8, 0x2D#8, 0x2F#8, 0x3A#8, 0x60#8, 0x7B#8, 0xFF#8],
      0x20 < c.toNat ∧ ¬(0x30 ≤ c.toNat ∧ c.toNat ≤ 0x39) ∧ c.toNat ≠ 0x2C ∧ ¬(0x61 ≤ c.toNat ∧ c.toNat ≤ 0x7A)) ∧
    booted.run = .running ∧ booted.cfg.otherClears = true ∧
    ({ params with otherClears := false } : Params).otherClears = false := by decide

theorem witness_BlankCharactersClear :
    (0x00#8).toNat ≤ 0x20 ∧ (0x20#8).toNat ≤ 0x20 ∧ booted.run = .running := by decide

theorem witness_DispatchLeavesAccumulatorEmpty :
    booted.run = .running ∧ booted.cfg.otherClears = true ∧
    ∀ c ∈ [0x00#8, 0x2B#8, 0x2D#8, 0x2F#8, 0x3A#8, 0x73#8, 0xFF#8],
      ¬(0x30 ≤ c.toNat ∧ c.toNat ≤ 0x39) ∧ c.toNat ≠ 0x2C := by decide

/-- Both clauses: the letters at the borders of the range, and the codes beside them. -/
theorem witness_EchoExactlyForLowercase :
    booted.run = .running ∧ (0x61 ≤ (0x61#8).toNat ∧ (0x61#8).toNat ≤ 0x7A) ∧
    (0x61 ≤ (0x7A#8).toNat ∧ (0x7A#8).toNat ≤ 0x7A) ∧ ¬(0x61 ≤ (0x60#8).toNat ∧ (0x60#8).toNat ≤ 0x7A) ∧
    ¬(0x61 ≤ (0x7B#8).toNat ∧ (0x7B#8).toNat ≤ 0x7A) := by decide

theorem witness_TransmitCompleteReturnsToReceive : transmitting.run = .running := by decide

theorem witness_ReceivedPacketIsReported :
    ({ booted with rxb := List.replicate 10 7 } : State).run = .running ∧ (0#8).toNat ≤ 10 ∧ (10#8).toNat ≤ 10 ∧
    9 < (10#8).toNat ∧ 9 < ({ booted with rxb := List.replicate 10 7 } : State).rxb.length := by decide

theorem witness_OversizedPacketIsMarked :
    booted.run = .running ∧ 10 < (11#8).toNat ∧ 10 < (255#8).toNat := by decide

theorem witness_TickWithoutRequestIsIdle : booted.run = .running ∧ booted.armed = false := by decide

/-- The shortest send, the longest, one under `Reissue` while transmitting, and one with a table of lengths. -/
theorem witness_TickSendsArmedRequest :
    (∀ s ∈ [{ booted with armed := true, plen := 0 }, { booted with armed := true, plen := 9 },
        { transmitting with armed := true, plen := 9, cfg := { params with sendWhileTx := .reissue } },
        { booted with armed := true, plen := 1, cfg := { params with txLen := [1, 1] } }],
      s.run = .running ∧ s.armed = true ∧ (s.mode = .receiving ∨ s.cfg.sendWhileTx = .reissue) ∧
      s.cfg.txLen.getD s.plen.toNat (1 + s.plen.toNat) ≤ 10) := by decide

theorem witness_TickWhileTransmitting :
    ({ transmitting with armed := true } : State).run = .running ∧
    ({ transmitting with armed := true } : State).armed = true ∧ transmitting.mode = .transmitting ∧
    transmitting.cfg.sendWhileTx = .defer ∧
    ({ params with sendWhileTx := .drop } : Params).sendWhileTx = .drop := by decide

/-- The three cases; the longest request that may go. -/
theorem witness_MainLoopArbitration :
    (some 0x73#8).isSome = true ∧ booted.run = .running ∧ booted.armed = false ∧
    ({ booted with armed := true, plen := 9 } : State).run = .running ∧
    ({ booted with armed := true, plen := 9 } : State).armed = true ∧
    ({ booted with armed := true, plen := 9 } : State).mode = .receiving ∧
    params.txLen.getD ({ booted with armed := true, plen := 9 } : State).plen.toNat (1 + 9) ≤ 10 := by decide

theorem witness_InputStarvesSends :
    ({ booted with armed := true } : State).run = .running ∧ ({ booted with armed := true } : State).armed = true := by
  decide

/-- Both sides of the equivalence: length 11 faults and length 10 does not. -/
theorem witness_OnlyOverlongSendFaults :
    faultOf (exec .evTick { booted with armed := true, plen := 10 }) = some (.txLengthViolation 11) ∧
    faultOf (exec .evTick { booted with armed := true, plen := 9 }) = none := by decide

theorem witness_DeferredRequestIsSentAfterTxDone :
    ∀ s ∈ [{ transmitting with armed := true, plen := 0 }, { transmitting with armed := true, plen := 9 }],
      s.run = .running ∧ s.armed = true ∧ s.mode = .transmitting ∧ s.cfg.sendWhileTx = .defer ∧ s.cfg.txLen = [] ∧
      s.plen.toNat ≤ 9 := by decide

theorem witness_BodyFromStackIsTransmitted :
    ∀ s ∈ [{ booted with top := 0, cfg := { params with bodyFromStack := true } },
        { booted with top := 9, cfg := { params with bodyFromStack := true } }],
      s.run = .running ∧ s.mode = .receiving ∧ s.cfg.bodyFromStack = true ∧ s.cfg.txLen = [] ∧ s.top.toNat ≤ 9 := by
  decide

/-- Both edges. -/
theorem witness_ModeHasTwoEdges :
    (nextOf (exec .evTick { booted with armed := true })).map State.mode = some .transmitting ∧
    booted.mode = .receiving ∧ (nextOf (exec .evTxdone transmitting)).map State.mode = some .receiving ∧
    transmitting.mode = .transmitting := by decide

/-- By a send under each policy that sends, and by a discard. -/
theorem witness_RequestConsumedByOneSend :
    ∀ s ∈ [{ booted with armed := true },
        { transmitting with armed := true, cfg := { params with sendWhileTx := .reissue } },
        { transmitting with armed := true, cfg := { params with sendWhileTx := .drop } }],
      s.armed = true ∧ (nextOf (exec .evTick s)).map State.armed = some false := by decide

theorem witness_OnlyCommandNWritesNodeId :
    (nextOf (exec .cmdN { booted with cv := 9 })).map (fun t => (t.nodeId, t.nv)) = some (9, [(5, 9)]) ∧
    booted.nodeId ≠ 9 ∧ booted.nv ≠ [(5, 9)] := by decide

theorem witness_OnlyCommandXWritesDisplayFormat :
    (nextOf (exec .cmdX { booted with cv := 1 })).map State.dispFmt = some 1 ∧ booted.dispFmt ≠ 1 := by decide

/-- One instruction of each kind answers a next state. -/
theorem witness_StateOwnership :
    ∀ i ∈ [Instr.evTxdone, .evRxdone 10, .evRxdone 11, .cmdS, .evTick], (nextOf (exec i transmitting)).isSome = true := by
  decide

theorem witness_InterpreterIgnoresLink :
    Instr.cmdS.kind = .char ∧ (nextOf (exec .cmdS transmitting)).isSome = true := by decide

theorem witness_HandlersIgnoreInterpreter :
    Instr.evTxdone.kind = .txdone ∧ (Instr.evRxdone 3).kind = .rxdone ∧
    (nextOf (exec .evTxdone transmitting)).isSome = true ∧
    (nextOf (exec (.evRxdone 3) { booted with rxb := [1, 2, 3] })).isSome = true := by decide

theorem witness_NoEffectOutsideRunning :
    State.reset.run ≠ .running ∧ ({ booted with run := .halted } : State).run ≠ .running := by decide

theorem witness_StepRunsDecodedEvent :
    ({ booted with pending := [.event 0x20A (List.replicate 10 7)] } : State).pending =
      .event 0x20A (List.replicate 10 7) :: [] ∧
    (decode 0x20A).kind = .rxdone ∧ (decode 0x100).kind = .txdone ∧ (decode 0x300).kind = .tick := by decide

theorem witness_StepWaitsForEnvironment : booted.pending = [] := by decide

/-- A known byte and the environment's answer, on both sides of each border. -/
theorem witness_ConfigLoadRepairsNodeId :
    (Memory.read booted.nv booted.cfg.nvNodeIdAddr).getD 0 = 1 ∧
    (Memory.read ({ booted with nv := [] } : State).nv booted.cfg.nvNodeIdAddr).getD 8 = 8 ∧
    ((0#8).toNat < 1 ∨ 7 < (0#8).toNat) ∧ ((8#8).toNat < 1 ∨ 7 < (8#8).toNat) ∧
    (1 ≤ (1#8).toNat ∧ (1#8).toNat ≤ 7) ∧ (1 ≤ (7#8).toNat ∧ (7#8).toNat ≤ 7) := by decide

theorem witness_BootLeavesResetValues :
    ∀ answer ∈ [0#8, 1#8, 7#8, 8#8],
      ({ State.reset with pending := [.consoleReady true answer] } : State).run = .booting ∧
      ({ State.reset with pending := [.consoleReady true answer] } : State).pending =
        .consoleReady true answer :: [] := by decide

theorem witness_InitFailureHalts :
    ({ State.reset with pending := [.consoleReady false 0] } : State).run = .booting ∧
    ({ State.reset with pending := [.consoleReady false 0] } : State).pending = .consoleReady false 0 :: [] := by decide

/-- Both orders. -/
theorem witness_FailedBootTouchesStoreByOrder :
    ∀ order ∈ [true, false],
      (nextOf (step
        { State.reset with
          pending := [.consoleReady false 0], cfg := { params with bootLoadBeforeInit := order } })).map State.run =
        some .halted := by decide

/-- Halted with nothing presented, with an event, and with the console ready. -/
theorem witness_OnlyPowerCycleLeavesHalted :
    ∀ p ∈ [[], [Stimulus.event 0x100 []], [.consoleReady true 1]],
      ({ booted with run := .halted, pending := p } : State).run = .halted ∧
      ({ booted with run := .halted, pending := p } : State).pending.head? ≠ some .powerCycle := by decide

theorem witness_PowerCycleKeepsOnlyStore :
    ({ transmitting with armed := true, pending := [.powerCycle] } : State).pending = .powerCycle :: [] := by decide

/-- A node id that a boot keeps. -/
theorem witness_NodeIdAfterReboot_kept :
    ({ booted with cv := 7 } : State).run = .running ∧
    (nextOf (exec .cmdN { booted with cv := 7 })).map State.nodeId = some 7 := by decide

/-- A node id that a boot repairs. -/
theorem witness_NodeIdAfterReboot_repaired :
    ({ booted with cv := 8 } : State).run = .running ∧
    (nextOf (exec .cmdN { booted with cv := 8 })).map State.nodeId = some 8 := by decide

/-- The invariant holds of a state with a full stack that is armed, transmits and holds a full payload. -/
def busy : State :=
  { transmitting with
    top := 14, armed := true, plen := 14, nodeId := 63, txb := [(0, 3), (9, 7)], pending := [.event 0x100 []] }

theorem witness_StepKeepsInv : Inv busy ∧ (nextOf (step busy)).isSome = true :=
  ⟨⟨⟨by decide, by decide, by decide, by decide⟩, ⟨by decide, by decide, by decide⟩⟩, by decide⟩

/-- A device in each mode, with the event that changes it. -/
def aboutToSend : State := { booted with armed := true, pending := [.event 0x300 []] }

def aboutToReceive : State :=
  { transmitting with out := [.xcvrTransmit [3] 1], pending := [.event 0x100 []] }

theorem witness_LinkAlternates_send :
    aboutToSend.cfg.sendWhileTx = .defer ∧ LawfulNext aboutToSend ∧ LinkInv aboutToSend ∧
    (nextOf (step aboutToSend)).map State.mode = some .transmitting := by
  refine ⟨by decide, ⟨fun word rx rest h hd => ?_, fun rest h => ?_⟩, ⟨by decide, by decide, by decide⟩, by decide⟩
  · cases h
    exact absurd hd (by decide)
  · cases h

theorem witness_LinkAlternates_txdone :
    aboutToReceive.cfg.sendWhileTx = .defer ∧ LawfulNext aboutToReceive ∧ LinkInv aboutToReceive ∧
    (nextOf (step aboutToReceive)).map State.mode = some .receiving :=
  ⟨by decide, ⟨fun _ _ _ _ _ => by decide, fun _ h => by cases h⟩, ⟨by decide, by decide, by decide⟩, by decide⟩

theorem witness_BootStartsAlternation :
    ({ State.reset with pending := [.consoleReady true 1] } : State).run = .booting ∧
    ({ State.reset with pending := [.consoleReady true 1] } : State).out = [] ∧
    ({ State.reset with pending := [.consoleReady true 1] } : State).pending = .consoleReady true 1 :: [] := by decide

/-- A transmission of the greatest length is added to a trace that holds an event of each bounded form. -/
def longestSend : State :=
  { booted with
    armed := true, plen := 9, pending := [.event 0x300 []]
    out := [.conRxReport 0 (List.replicate 10 7), .conEcho (List.replicate 14 7) 0, .conHelp 63, .nvWrite 5 63] }

theorem witness_StepKeepsTraceLegal :
    longestSend.cfg.txLen = [] ∧ Inv longestSend ∧ LegalTrace longestSend ∧
    (nextOf (step longestSend)).isSome = true := by
  refine ⟨by decide, ⟨⟨by decide, by decide, by decide, by decide⟩, ⟨by decide, by decide, by decide⟩⟩, ?_, by decide⟩
  intro e he
  simp only [longestSend, List.mem_cons, List.not_mem_nil, or_false] at he
  rcases he with rfl | rfl | rfl | rfl <;> (simp only [legalEvent]; decide)

theorem witness_TraceOnlyGrows : (nextOf (step aboutToSend)).isSome = true := by decide

theorem witness_ParametersNeverChange : (nextOf (step { booted with pending := [.powerCycle] })).isSome = true := by
  decide

/-- The receiving device of a role. -/
def listener (r : Role) : State := { booted with inv := rxInv r, cfg := { params with role := r } }

/-- A transmitting Gateway with a listener of each role. -/
theorem witness_RolesSeparatedByInversion :
    Inv transmitting ∧ transmitting.run = .running ∧ transmitting.mode = .transmitting ∧
    ∀ r : Role, Inv (listener r) ∧ (listener r).run = .running ∧ (listener r).mode = .receiving := by
  refine ⟨⟨⟨by decide, by decide, by decide, by decide⟩, ⟨by decide, by decide, by decide⟩⟩, by decide, by decide,
    fun r => ?_⟩
  cases r <;>
    exact ⟨⟨⟨by decide, by decide, by decide, by decide⟩, ⟨by decide, by decide, by decide⟩⟩, by decide, by decide⟩

/-- A received byte, to be reported in a format. -/
def received (fmt : Word16) : State := { booted with dispFmt := fmt, rxb := [0xAB] }

theorem witness_ReportRendering_hex :
    (received 1).run = .running ∧ (received 1).rxb = [0xAB] ∧ (received 1).dispFmt = 1 := by decide

theorem witness_ReportRendering_decimal :
    (received 0).run = .running ∧ (received 0).rxb = [0xAB] ∧ (received 0).dispFmt = 0 := by decide

/-- The two formats of the second clause. -/
theorem witness_ReportRendering_formats : ((0 : Word16) = 0 ∨ (0 : Word16) = 1) ∧ ((1 : Word16) = 0 ∨ (1 : Word16) = 1) := by
  decide

theorem witness_ByteRendering : 0x10 ≤ (0x10#8).toNat ∧ 0x10 ≤ (0xFF#8).toNat := by decide

end Sys2Proof.Tests
end

section
/-!
PROOFS. The accumulate family: what `DIGIT` and `PUSH` do while `Running` (spec/40_interp_accumulate.md), each said once,
and the statements of the family that follow from it.
-/

namespace Sys2Proof.Accumulate

open Sys2Proof.Machine

/-! The events -/

theorem decode_digitChar : ∀ d : BitVec 4, d.toNat ≤ 9 → decode (BitVec.ofNat 10 (0x30 + d.toNat)) = .digit d := by
  decide

theorem decode_comma : decode 0x02C = .push := by decide

/-! One event while `Running` -/

/-- Sixteen bits hold a number modulo 65536 (R91). -/
theorem ofNat_sixteen_mod (n : Nat) : BitVec.ofNat 16 (n % 65536) = BitVec.ofNat 16 n := by
  apply BitVec.eq_of_toNat_eq
  simp

theorem exec_digit_of_running (d : BitVec 4) {s : State} (hr : s.run = .running) :
    exec (.digit d) s = .next { s with cv := BitVec.ofNat 16 (s.cv.toNat * 10 + d.toNat) } :=
  calc exec (.digit d) s
      = .next (accumulate d s) := whenRunning_of_running _ hr
    _ = .next { s with cv := BitVec.ofNat 16 (s.cv.toNat * 10 + d.toNat) } := by rw [accumulate_eq]

theorem exec_push_of_running {s : State} (hr : s.run = .running) : exec .push s = .next (pushValue s) :=
  whenRunning_of_running _ hr

/-- Below capacity the entry at `top` becomes the low byte of `cv`, the other entries stay, and `top` grows (R93). -/
theorem pushValue_stores {s : State} (h : s.top.toNat < 14) :
    (pushValue s).stk.toList = s.stk.toList.set s.top.toNat (BitVec.ofNat 8 (s.cv.toNat % 256)) ∧
    pushValue s = { s with stk := (pushValue s).stk, top := BitVec.ofNat 8 (s.top.toNat + 1), cv := 0 } := by
  have hTop : BitVec.ofNat 8 (s.top.toNat + 1) = s.top + 1 := by simp [BitVec.ofNat_add]
  rw [pushValue_of_room h, hTop, ← lowByte_eq]
  exact ⟨Vector.toList_setIfInBounds, rfl⟩

/-! The statements -/

/-- Settles O6: the word is one of ten, and the accumulator's value is taken modulo 65536 by its width. -/
theorem digitAccumulates : Obligations.DigitAccumulates := by
  intro d hd
  refine ⟨decode_digitChar d hd, fun s hr => ?_⟩
  rw [exec_digit_of_running d hr, ofNat_sixteen_mod]

/-- Settles O8, by the two branches of the guarded push: room below the capacity, or a full stack. -/
theorem pushStoresLowByte : Obligations.PushStoresLowByte := by
  refine ⟨decode_comma, fun s hr => ?_⟩
  rw [exec_push_of_running hr]
  constructor
  · intro hRoom
    obtain ⟨hStk, hNext⟩ := pushValue_stores hRoom
    exact ⟨(pushValue s).stk, hStk, congrArg Host.Outcome.next hNext⟩
  · intro hFull
    rw [pushValue_of_full hFull]

end Sys2Proof.Accumulate
end

section
/-!
PROOFS. The dispatch family: the phases of R100, echo, command and clearing, said once as an equation of the state, and
the statements that follow from them (spec/41_interp_dispatch.md).
-/

namespace Sys2Proof.Dispatch

open Sys2Proof.Machine

/-! The events -/

/-- The opcode table's rows of the letters without a command (R73, R109). -/
theorem decode_otherLetter :
    ∀ c : Byte, 0x61 ≤ c.toNat → c.toNat ≤ 0x7A → c.toNat ∉ [0x68, 0x6E, 0x73, 0x76, 0x78] →
      decode (0#2 ++ c) = .cmdLowerNop c := by decide

/-- The opcode table's two rows of the characters at or below space (R73, R111). -/
theorem decode_blank : ∀ c : Byte, c.toNat ≤ 0x20 → decode (0#2 ++ c) = .charBlank c := by decide

/-! The phases -/

/-- A letter without a command: the echo, then the clearing (R101, R102). -/
theorem clearAcc_debugEcho (s : State) :
    clearAcc (debugEcho s) =
      { s with cv := 0, top := 0, out := s.out ++ [.conEcho (s.stk.toList.take s.top.toNat) s.cv] } := rfl

/-- A command that only reports: its event follows the echo in the trace. -/
theorem clearAcc_emit_debugEcho (e : OutEvent) (s : State) :
    clearAcc (emit e (debugEcho s)) =
      { s with cv := 0, top := 0, out := s.out ++ [.conEcho (s.stk.toList.take s.top.toNat) s.cv, e] } := by
  simp [clearAcc, emit, debugEcho, stackBytes]

/-- The node id that command `n` takes from the accumulator (R105). -/
def newNodeId (s : State) : Byte := lowByte (s.cv &&& Config.nodeIdMask)

theorem newNodeId_toNat (s : State) : (newNodeId s).toNat = s.cv.toNat % 64 := lowByte_masked s.cv

/-- Command `n` changes the node id, its persistent byte and the trace, and clears. -/
theorem clearAcc_setNodeId_debugEcho (s : State) :
    clearAcc (setNodeId (debugEcho s)) =
      { s with
        nodeId := newNodeId s, nv := Memory.write s.nv s.cfg.nvNodeIdAddr (newNodeId s), cv := 0, top := 0
        out := s.out ++
          [.conEcho (s.stk.toList.take s.top.toNat) s.cv, .nvWrite s.cfg.nvNodeIdAddr (newNodeId s)] } := by
  simp [clearAcc, setNodeId, memWriteNodeId, emit, debugEcho, stackBytes, newNodeId]

/-! The statements -/

/-- Settles O11: the mask keeps `cv` modulo 64, and the store reads back what was written at the one address written. -/
theorem commandNSetsAndPersistsNodeId : Obligations.CommandNSetsAndPersistsNodeId := by
  refine ⟨by decide, fun s hr =>
    ⟨newNodeId s, Memory.write s.nv s.cfg.nvNodeIdAddr (newNodeId s), newNodeId_toNat s, ?_, fun a => ?_⟩⟩
  · calc exec .cmdN s
        = .next (clearAcc (setNodeId (debugEcho s))) := whenRunning_of_running _ hr
      _ = _ := by rw [clearAcc_setNodeId_debugEcho]
  · exact Memory.read_write _ _ a _

/-- Settles O13: the report is the identification. -/
theorem commandVIdentifies : Obligations.CommandVIdentifies := by
  refine ⟨by decide, fun s hr => ?_⟩
  calc exec .cmdV s
      = .next (clearAcc (emit .conIdent (debugEcho s))) := whenRunning_of_running _ hr
    _ = _ := by rw [clearAcc_emit_debugEcho]

/-- Settles O14: the report is the help text with the node id held in memory. -/
theorem commandHShowsNodeId : Obligations.CommandHShowsNodeId := by
  refine ⟨by decide, fun s hr => ?_⟩
  calc exec .cmdH s
      = .next (clearAcc (emit (.conHelp s.nodeId) (debugEcho s))) := whenRunning_of_running _ hr
    _ = _ := by rw [clearAcc_emit_debugEcho]

/-- Settles O15: the letter selects the instruction, whose effect does not depend on it. -/
theorem otherLettersEchoAndClear : Obligations.OtherLettersEchoAndClear := by
  intro c hLow hHigh hOther
  refine ⟨decode_otherLetter c hLow hHigh hOther, fun s hr => ?_⟩
  calc exec (.cmdLowerNop c) s
      = .next (clearAcc (debugEcho s)) := whenRunning_of_running _ hr
    _ = _ := by rw [clearAcc_debugEcho]

/-- Settles O17: the clearing is the only phase of a blank character. -/
theorem blankCharactersClear : Obligations.BlankCharactersClear := by
  intro c hBlank
  exact ⟨decode_blank c hBlank, fun s hr => whenRunning_of_running (.next (clearAcc s)) hr⟩

end Sys2Proof.Dispatch
end

section
/-!
PROOFS. Reset and boot (spec/70_reset_and_hazards.md): what a failed boot emits and keeps, that no instruction does
anything outside `Running`, and the statement of the family that follows from them.
-/

namespace Sys2Proof.Reset

open Sys2Proof.Machine

/-! Outside `Running` -/

theorem exec_of_not_running (i : Instr) {s : State} (h : s.run ≠ .running) : exec i s = .next s := by
  cases i <;> exact whenRunning_of_not_running _ h

/-! Loading the configuration -/

@[simp] theorem configLoad_mode (b : Byte) (s : State) : (configLoad b s).mode = s.mode := by
  rcases configLoad_cases b s with ⟨_, h⟩ | ⟨_, h⟩ <;> simp [h]

@[simp] theorem configLoad_inv (b : Byte) (s : State) : (configLoad b s).inv = s.inv := by
  rcases configLoad_cases b s with ⟨_, h⟩ | ⟨_, h⟩ <;> simp [h]

@[simp] theorem configLoad_cfg (b : Byte) (s : State) : (configLoad b s).cfg = s.cfg := by
  rcases configLoad_cases b s with ⟨_, h⟩ | ⟨_, h⟩ <;> simp [h]

/-- The load emits nothing, or the one write that repairs the stored node id (R173). -/
theorem configLoad_out (b : Byte) (s : State) :
    (configLoad b s).out = s.out ∨ (configLoad b s).out = s.out ++ [.nvWrite s.cfg.nvNodeIdAddr 1] := by
  rcases configLoad_cases b s with ⟨_, h⟩ | ⟨_, h⟩
  · exact .inr (by simp [h])
  · exact .inl (by simp [h])

/-! A failed boot -/

@[simp] theorem haltAfterInitFailure_run (s : State) : (haltAfterInitFailure s).run = .halted := rfl
@[simp] theorem haltAfterInitFailure_mode (s : State) : (haltAfterInitFailure s).mode = s.mode := rfl
@[simp] theorem haltAfterInitFailure_inv (s : State) : (haltAfterInitFailure s).inv = s.inv := rfl
@[simp] theorem haltAfterInitFailure_out (s : State) :
    (haltAfterInitFailure s).out = s.out ++ [.conInitFail] := rfl

theorem bootProcedure_failed_run (b : Byte) (s : State) : (bootProcedure false b s).run = .halted := by
  rw [bootProcedure_failed, haltAfterInitFailure_run]

theorem bootProcedure_failed_mode (b : Byte) (s : State) : (bootProcedure false b s).mode = s.mode := by
  rw [bootProcedure_failed]
  split <;> simp

theorem bootProcedure_failed_inv (b : Byte) (s : State) : (bootProcedure false b s).inv = s.inv := by
  rw [bootProcedure_failed]
  split <;> simp

/-- Before its report a failed boot has at most repaired the stored node id, and has commanded the initialisation. -/
theorem bootProcedure_failed_out (b : Byte) (s : State) :
    ∃ load : List OutEvent, (load = [] ∨ load = [.nvWrite s.cfg.nvNodeIdAddr 1]) ∧
      (bootProcedure false b s).out = s.out ++ (load ++ [.xcvrInit s.cfg.channelFreq]) ++ [.conInitFail] := by
  rw [bootProcedure_failed]
  split
  · rcases configLoad_out b (clearAtBoot s) with h | h
    · exact ⟨[], .inl rfl, by simp [h]⟩
    · exact ⟨_, .inr rfl, by simp [h]⟩
  · exact ⟨[], .inl rfl, by simp⟩

/-! The statement -/

/-- Settles O45: the step is the failed boot, whose events before its report are a store write at most and the command
to initialise; the `Halted` state it answers is outside `Running`. -/
theorem initFailureHalts : Obligations.InitFailureHalts := by
  intro answer rest s hBooting hPending
  obtain ⟨load, hLoad, hOut⟩ := bootProcedure_failed_out answer { s with pending := rest }
  have hRun := bootProcedure_failed_run answer { s with pending := rest }
  refine ⟨_, load ++ [.xcvrInit s.cfg.channelFreq], step_boot hBooting hPending, hRun,
    bootProcedure_failed_mode _ _, bootProcedure_failed_inv _ _, hOut,
    fun i => exec_of_not_running i (by simp [hRun]), ?_⟩
  rcases hLoad with rfl | rfl <;> simp

end Sys2Proof.Reset
end

section
/-!
PROOFS. The decoder and the encoder (spec/30_encoding.md). Every row of the opcode table selects the kind CHAR, so a
word of another kind is decoded by its kind alone; the words of kind CHAR are the 256 characters.
-/

namespace Sys2Proof.Encoding

/-! A word and its two fields -/

@[simp] theorem wordArg_eventWord (k : EventKind) (arg : Byte) : wordArg (eventWord k arg) = arg := by
  have h (n : BitVec 2) : (n ++ arg).extractLsb' 0 8 = arg := BitVec.extractLsb'_append_eq_right
  cases k <;> simp [wordArg, eventWord, h]

/-- A word is its two fields put together (R70). -/
theorem eventWord_fields (w : EventWord) : eventWord (wordKind w) (wordArg w) = w := by
  revert w
  decide

/-! Words of the other kinds -/

/-- Each row fixes the `kind` field, and fixes it to CHAR. -/
theorem opcodeRows_fix_kind : ∀ r ∈ opcodeRows, r.mask &&& 0x300 = 0x300 ∧ r.pattern &&& 0x300 = 0 := by decide

theorem firstRow_eq_none {w : EventWord} {rows : List OpcodeRow} (h : ∀ r ∈ rows, r.hits w = false) :
    firstRow rows w = none := by
  induction rows with
  | nil => rfl
  | cons r rs ih =>
    obtain ⟨hr, hrs⟩ := List.forall_mem_cons.mp h
    simp [firstRow, hr, ih hrs]

/-- A row that selects a word finds CHAR in its `kind` bits. -/
theorem kindBits_of_hits {w : EventWord} {r : OpcodeRow} (hr : r ∈ opcodeRows) (h : r.hits w = true) :
    w &&& 0x300 = 0 := by
  obtain ⟨hMask, hPattern⟩ := opcodeRows_fix_kind r hr
  have hHit : w &&& r.mask = r.pattern := by simpa [OpcodeRow.hits] using h
  calc w &&& 0x300
      = (w &&& r.mask) &&& 0x300 := by rw [BitVec.and_assoc, hMask]
    _ = 0 := by rw [hHit, hPattern]

/-- A word with `kind` bits set is decoded by its kind alone (rows 19 to 21). -/
theorem decode_of_kindBits {w : EventWord} (h : w &&& 0x300 ≠ 0) : decode w = decodeKind w := by
  have hNone : firstRow opcodeRows w = none :=
    firstRow_eq_none fun r hr => Bool.eq_false_iff.mpr fun hit => h (kindBits_of_hits hr hit)
  simp [decode, hNone]

theorem kindBits_append (n : BitVec 2) (arg : Byte) : (n ++ arg) &&& 0x300 = n ++ 0#8 := by
  rw [show (0x300 : EventWord) = 3#2 ++ 0#8 by decide, BitVec.and_append]
  congr 1
  · revert n; decide
  · simp

theorem decode_eventWord_of_ne_char {k : EventKind} (h : k ≠ .char) (arg : Byte) :
    decode (eventWord k arg) = decodeKind (eventWord k arg) := by
  apply decode_of_kindBits
  cases k with
  | char => exact absurd rfl h
  | txdone => rw [eventWord, kindBits_append]; decide
  | rxdone => rw [eventWord, kindBits_append]; decide
  | tick => rw [eventWord, kindBits_append]; decide

@[simp] theorem decode_txdone (arg : Byte) : decode (eventWord .txdone arg) = .evTxdone := by
  rw [decode_eventWord_of_ne_char (by decide), decodeKind, Laws.wordKind_eventWord]

@[simp] theorem decode_rxdone (size : Byte) : decode (eventWord .rxdone size) = .evRxdone size := by
  rw [decode_eventWord_of_ne_char (by decide), decodeKind, Laws.wordKind_eventWord, wordArg_eventWord]

@[simp] theorem decode_tick (arg : Byte) : decode (eventWord .tick arg) = .evTick := by
  rw [decode_eventWord_of_ne_char (by decide), decodeKind, Laws.wordKind_eventWord]

/-! The characters -/

/-- Settles O3: the opcode table is read for each of the 256 characters. -/
theorem characterClasses : Obligations.CharacterClasses := by
  unfold Obligations.CharacterClasses
  decide

theorem wf_decode_char : ∀ c : Byte, (decode (0#2 ++ c)).wf = true := by decide

theorem encode_decode_char : ∀ c : Byte, encode (decode (0#2 ++ c)) = 0#2 ++ c := by decide

theorem kind_decode_char : ∀ c : Byte, (decode (0#2 ++ c)).kind = .char := by decide

theorem decode_digit (d : BitVec 4) (h : d.toNat ≤ 9) : decode (encode (.digit d)) = .digit d := by
  revert d
  decide

/-- The catch-all of CHAR (R73, R110). -/
theorem decode_other (c : Byte) (hBlank : 0x20 < c.toNat) (hDigit : ¬(0x30 ≤ c.toNat ∧ c.toNat ≤ 0x39))
    (hComma : c.toNat ≠ 0x2C) (hLower : ¬(0x61 ≤ c.toNat ∧ c.toNat ≤ 0x7A)) : decode (0#2 ++ c) = .charOther c := by
  rw [characterClasses c, if_neg hDigit, if_neg hComma, if_neg (by omega), if_neg (by omega), if_neg (by omega),
    if_neg (by omega), if_neg (by omega), if_neg hLower, if_neg (by omega)]

/-! The statements -/

/-- Settles O4: by the instruction's class. A command's word is fixed, a digit has ten, the other characters are those
of their class, and the notifications are decoded by kind. -/
theorem decodeOfEncode : Obligations.DecodeOfEncode := by
  intro i hwf
  cases i with
  | digit d => exact decode_digit d (by simpa [Instr.wf] using hwf)
  | push => decide
  | cmdS => decide
  | cmdN => decide
  | cmdX => decide
  | cmdV => decide
  | cmdH => decide
  | cmdLowerNop c =>
    simp [Instr.wf, isLowercase, isCommandLetter] at hwf
    exact Dispatch.decode_otherLetter c (by omega) (by omega) (by simp; omega)
  | charOther c =>
    simp [Instr.wf, isBlank, isDigit, isLowercase] at hwf
    exact decode_other c (by omega) (by omega) (by omega) (by omega)
  | charBlank c => exact Dispatch.decode_blank c (by simpa [Instr.wf, isBlank] using hwf)
  | evTxdone => exact decode_txdone 0
  | evRxdone size => exact decode_rxdone size
  | evTick => exact decode_tick 0

/-- Settles O1: the decoder is run on each of the words. -/
theorem specWordsDecode : Obligations.SpecWordsDecode := by
  unfold Obligations.SpecWordsDecode
  decide

/-- Settles O2: by the word's kind; the words of kind CHAR are the characters. -/
theorem everyWordIsAnEvent : Obligations.EveryWordIsAnEvent := by
  intro w
  rw [← eventWord_fields w]
  cases wordKind w with
  | char => exact wf_decode_char _
  | txdone => simp [Instr.wf]
  | rxdone => simp [Instr.wf]
  | tick => simp [Instr.wf]

/-- The `kind` field is the word's value above its low 256 (R70). -/
theorem eventWord_toNat_div (n : BitVec 2) (arg : Byte) : (n ++ arg).toNat / 256 = n.toNat := by
  rw [BitVec.toNat_append, ← Nat.shiftLeft_add_eq_or_of_lt arg.isLt, Nat.shiftLeft_eq]
  omega

/-- Settles O5: by the word's kind; TXDONE and TICK forget their `arg`. -/
theorem encodeOfDecode : Obligations.EncodeOfDecode := by
  intro w
  rw [← eventWord_fields w]
  cases wordKind w with
  | char => rw [eventWord, eventWord_toNat_div, encode_decode_char]; rfl
  | txdone => rw [decode_txdone, eventWord, eventWord_toNat_div]; rfl
  | rxdone => rw [decode_rxdone, eventWord, eventWord_toNat_div]; rfl
  | tick => rw [decode_tick, eventWord, eventWord_toNat_div]; rfl

end Sys2Proof.Encoding
end

section
/-!
PROOFS. What one instruction can do, said once. A character acts through `interpret`; an instruction that answers a next
state answers it in one of the ways of `ExecEffect`. What a character keeps, and what it adds to the trace, follow here;
the statements are settled in the sections after this one.
-/

namespace Sys2Proof.Effect

open Sys2Proof.Machine Sys2Proof.Safety

/-! The characters -/

/-- What a character does to a `Running` block; a notification and a TICK are no characters. -/
def interpret (s : State) : Instr → State
  | .digit d => accumulate d s
  | .push => pushValue s
  | .cmdS => clearAcc (armRequest (debugEcho s))
  | .cmdN => clearAcc (setNodeId (debugEcho s))
  | .cmdX => clearAcc (setDisplayFormat (debugEcho s))
  | .cmdV => clearAcc (emit .conIdent (debugEcho s))
  | .cmdH => clearAcc (emit (.conHelp s.nodeId) (debugEcho s))
  | .cmdLowerNop _ => clearAcc (debugEcho s)
  | .charOther _ => if s.cfg.otherClears then clearAcc s else s
  | .charBlank _ => clearAcc s
  | .evTxdone => s
  | .evRxdone _ => s
  | .evTick => s

theorem exec_char {i : Instr} (hk : i.kind = .char) (s : State) :
    exec i s = whenRunning s (.next (interpret s i)) := by
  cases i with
  | evTxdone => cases hk
  | evRxdone size => cases hk
  | evTick => cases hk
  | _ => rfl

theorem exec_char_of_running {i : Instr} (hk : i.kind = .char) {s : State} (hr : s.run = .running) :
    exec i s = .next (interpret s i) := by
  rw [exec_char hk, whenRunning_of_running _ hr]

theorem pushValue_cases (s : State) :
    (s.top.toNat < 14 ∧
        pushValue s =
          { s with stk := s.stk.setIfInBounds s.top.toNat (lowByte s.cv), top := s.top + 1, cv := 0 }) ∨
      (14 ≤ s.top.toNat ∧ pushValue s = { s with cv := 0 }) := by
  rcases Nat.lt_or_ge s.top.toNat 14 with h | h
  · exact .inl ⟨h, pushValue_of_room h⟩
  · exact .inr ⟨h, pushValue_of_full h⟩

theorem interpret_charOther_cases (c : Byte) (s : State) :
    interpret s (.charOther c) = clearAcc s ∨ interpret s (.charOther c) = s := by
  cases h : s.cfg.otherClears <;> simp [interpret, h]

theorem setNodeId_eq (s : State) :
    setNodeId s = memWriteNodeId (Dispatch.newNodeId s) { s with nodeId := Dispatch.newNodeId s } := rfl

/-- What no character writes: the link's registers, the flag of a transmission, the phase and the parameters (R42). -/
structure KeepsLink (s t : State) : Prop where
  mode : t.mode = s.mode
  inv : t.inv = s.inv
  run : t.run = s.run
  txInFlight : t.txInFlight = s.txInFlight
  cfg : t.cfg = s.cfg

theorem interpret_keepsLink (s : State) (i : Instr) : KeepsLink s (interpret s i) := by
  cases i with
  | push => rcases pushValue_cases s with ⟨_, h⟩ | ⟨_, h⟩ <;> constructor <;> simp [interpret, h]
  | charOther c =>
    rcases interpret_charOther_cases c s with h | h <;> constructor <;> simp [h]
  | _ => constructor <;> rfl

/-- A character never withdraws a request. -/
theorem interpret_armed {s : State} (h : s.armed = true) (i : Instr) : (interpret s i).armed = true := by
  cases i with
  | push => rcases pushValue_cases s with ⟨_, hp⟩ | ⟨_, hp⟩ <;> simp [interpret, hp, h]
  | charOther c => rcases interpret_charOther_cases c s with hc | hc <;> simp [hc, h]
  | cmdS => rfl
  | _ => exact h

/-! What a character adds to the trace -/

/-- The letters: they are echoed (R101). -/
def isLetter : Instr → Bool
  | .cmdS | .cmdN | .cmdX | .cmdV | .cmdH | .cmdLowerNop _ => true
  | _ => false

/-- The event a command adds after its echo. -/
def commandEvents (s : State) : Instr → List OutEvent
  | .cmdN => [.nvWrite s.cfg.nvNodeIdAddr (Dispatch.newNodeId s)]
  | .cmdV => [.conIdent]
  | .cmdH => [.conHelp s.nodeId]
  | _ => []

/-- All that an instruction adds to the trace as a character. -/
def interpretEvents (s : State) (i : Instr) : List OutEvent :=
  if isLetter i then .conEcho (stackBytes s) s.cv :: commandEvents s i else []

theorem interpret_out (s : State) (i : Instr) : (interpret s i).out = s.out ++ interpretEvents s i := by
  cases i with
  | push => rcases pushValue_cases s with ⟨_, h⟩ | ⟨_, h⟩ <;> simp [interpret, h, interpretEvents, isLetter]
  | charOther c => rcases interpret_charOther_cases c s with h | h <;> simp [h, interpretEvents, isLetter]
  | _ => simp [interpret, interpretEvents, isLetter, commandEvents, accumulate, setNodeId_eq, Dispatch.newNodeId]

/-- A property of the echo and of the commands' three events holds of all a character adds. -/
theorem forall_mem_interpretEvents {P : OutEvent → Prop} {s : State} (hEcho : P (.conEcho (stackBytes s) s.cv))
    (hWrite : P (.nvWrite s.cfg.nvNodeIdAddr (Dispatch.newNodeId s))) (hIdent : P .conIdent)
    (hHelp : P (.conHelp s.nodeId)) (i : Instr) : ∀ e ∈ interpretEvents s i, P e := by
  cases i <;> simp [interpretEvents, isLetter, commandEvents, *]

/-! The notifications -/

theorem exec_evTxdone_of_running {s : State} (hr : s.run = .running) :
    exec .evTxdone s = .next (enterReceiveMode (emit .conTxDoneLog s)) := whenRunning_of_running _ hr

/-- What a TXDONE adds to the trace (R121, R127). -/
def txdoneEvents (s : State) : List OutEvent := [.conTxDoneLog, .xcvrSetInvert (rxInv s.cfg.role), .xcvrRxContinuous]

theorem txdone_out (s : State) : (enterReceiveMode (emit .conTxDoneLog s)).out = s.out ++ txdoneEvents s := by
  simp [txdoneEvents]

theorem exec_evRxdone_of_oversized {size : Byte} {s : State} (hr : s.run = .running) (h : 10 < size.toNat) :
    exec (.evRxdone size) s = .next (emit .conRxError s) :=
  (whenRunning_of_running _ hr).trans (congrArg Host.Outcome.next (if_pos h))

theorem exec_evRxdone_of_size_le {size : Byte} {s : State} (hr : s.run = .running) (h : size.toNat ≤ 10) :
    exec (.evRxdone size) s = .next (reportPacket size.toNat s) :=
  (whenRunning_of_running _ hr).trans (congrArg Host.Outcome.next (if_neg (Nat.not_lt.mpr h)))

/-! The TICK -/

/-- The state in which a TICK that sends calls `Send`: the request consumed, the destination put first (R142). -/
def requestTaken (s : State) : State := { s with armed := false, txb := Memory.write s.txb 0 s.pdest }

theorem exec_evTick_of_send {s : State} (hr : s.run = .running) (ha : tickAction s = .send) :
    exec .evTick s = send (sendLength s) (requestTaken s) := by
  refine (whenRunning_of_running _ hr).trans ?_
  rw [ha]
  rfl

theorem exec_evTick_of_discard {s : State} (hr : s.run = .running) (ha : tickAction s = .discard) :
    exec .evTick s = .next { s with armed := false } := by
  refine (whenRunning_of_running _ hr).trans ?_
  rw [ha]

theorem exec_evTick_of_idle {s : State} (hr : s.run = .running) (ha : tickAction s = .idle) :
    exec .evTick s = .next s := by
  refine (whenRunning_of_running _ hr).trans ?_
  rw [ha]
  rfl

/-- What a TICK that sends adds to the trace (R122, R125). -/
def sendEvents (s : State) : List OutEvent :=
  [.xcvrIdle, .xcvrSetInvert (txInv s.cfg.role),
    .xcvrTransmit (payloadBytes (sendLength s) (enterTransmitMode (requestTaken s))) (sendLength s)]

theorem send_out (s : State) :
    (transmit (sendLength s) (enterTransmitMode (requestTaken s))).out = s.out ++ sendEvents s := by
  simp [requestTaken, sendEvents]

/-! All instructions -/

/-- The ways in which an instruction that answers a next state can answer it. -/
inductive ExecEffect (s : State) : Instr → State → Prop
  | stopped (i : Instr) : s.run ≠ .running → ExecEffect s i s
  | char (i : Instr) : s.run = .running → i.kind = .char → ExecEffect s i (interpret s i)
  | txdone : s.run = .running → ExecEffect s .evTxdone (enterReceiveMode (emit .conTxDoneLog s))
  | oversized (size : Byte) : s.run = .running → 10 < size.toNat →
      ExecEffect s (.evRxdone size) (emit .conRxError s)
  | report (size : Byte) : s.run = .running → size.toNat ≤ 10 →
      ExecEffect s (.evRxdone size) (reportPacket size.toNat s)
  | idle : s.run = .running → ExecEffect s .evTick s
  | discard : s.run = .running → s.armed = true → s.mode = .transmitting → s.cfg.sendWhileTx = .drop →
      ExecEffect s .evTick { s with armed := false }
  | send : s.run = .running → s.armed = true → (s.mode = .receiving ∨ s.cfg.sendWhileTx = .reissue) →
      sendLength s ≤ 10 →
      ExecEffect s .evTick (transmit (sendLength s) (enterTransmitMode (requestTaken s)))

theorem exec_effect {i : Instr} {s t : State} (h : exec i s = .next t) : ExecEffect s i t := by
  by_cases hr : s.run = .running
  · cases hk : i.kind with
    | char =>
      cases (exec_char_of_running hk hr).symm.trans h
      exact .char i hr hk
    | txdone =>
      cases i <;> cases hk
      cases (exec_evTxdone_of_running hr).symm.trans h
      exact .txdone hr
    | rxdone =>
      cases i <;> cases hk
      rename_i size
      rcases Nat.lt_or_ge 10 size.toNat with hs | hs
      · cases (exec_evRxdone_of_oversized hr hs).symm.trans h
        exact .oversized size hr hs
      · cases (exec_evRxdone_of_size_le hr hs).symm.trans h
        exact .report size hr hs
    | tick =>
      cases i <;> cases hk
      rcases exec_evTick_next h with rfl | ⟨_, ha, hm, hd, rfl⟩ | ⟨_, ha, hm, hn, rfl⟩
      · exact .idle hr
      · exact .discard hr ha hm hd
      · exact .send hr ha hm hn
  · cases (Reset.exec_of_not_running i hr).symm.trans h
    exact .stopped i hr

end Sys2Proof.Effect
end

section
/-!
PROOFS. Strings of characters: a run of digits and a list of numbers (spec/40_interp_accumulate.md), each by induction
over the string from any accumulator and any stack.
-/

namespace Sys2Proof.Strings

open Sys2Proof.Machine Sys2Proof.Safety Sys2Proof.Effect

/-! Strings of instructions -/

theorem execAll_cons {i : Instr} {s t : State} (h : exec i s = .next t) (is : List Instr) :
    execAll (i :: is) s = execAll is t := by
  simp [execAll, h]

theorem execAll_append {is : List Instr} {s t : State} (h : execAll is s = .next t) (js : List Instr) :
    execAll (is ++ js) s = execAll js t := by
  induction is generalizing s with
  | nil => cases h; rfl
  | cons i is ih =>
    cases hi : exec i s with
    | next u =>
      rw [List.cons_append, execAll_cons hi]
      exact ih (by rwa [execAll_cons hi] at h)
    | fault r => simp [execAll, hi] at h
    | refused r => simp [execAll, hi] at h

/-! A run of digits -/

/-- The number a run of digits makes of the number `v` accumulated before it. -/
def decimalFrom (v : Nat) (ds : List (BitVec 4)) : Nat := ds.foldl (fun v d => v * 10 + d.toNat) v

/-- A digit typed after the number `v`; the value kept is modulo 65536 on both sides. -/
theorem exec_digit_after (d : BitVec 4) {v : Nat} {s : State} (hr : s.run = .running) (hv : s.cv = BitVec.ofNat 16 v) :
    exec (.digit d) s = .next { s with cv := BitVec.ofNat 16 (v * 10 + d.toNat) } := by
  have hValue : BitVec.ofNat 16 (s.cv.toNat * 10 + d.toNat) = BitVec.ofNat 16 (v * 10 + d.toNat) := by
    apply BitVec.eq_of_toNat_eq
    simp only [hv, BitVec.toNat_ofNat]
    omega
  rw [Accumulate.exec_digit_of_running d hr, hValue]

/-- The accumulator follows the number that is typed (R92). -/
theorem execAll_digits (ds : List (BitVec 4)) {v : Nat} {s : State} (hr : s.run = .running)
    (hv : s.cv = BitVec.ofNat 16 v) :
    execAll (ds.map Instr.digit) s = .next { s with cv := BitVec.ofNat 16 (decimalFrom v ds) } := by
  induction ds generalizing s v with
  | nil => simp [execAll, decimalFrom, ← hv]
  | cons d ds ih => exact (execAll_cons (exec_digit_after d hr hv) _).trans (ih hr rfl)

/-- Settles O7: a run of digits from the number 0. -/
theorem digitRunReadsDecimal : Obligations.DigitRunReadsDecimal := by
  intro ds s hr hcv
  rw [Accumulate.ofNat_sixteen_mod]
  exact execAll_digits ds hr hcv

/-! A list of numbers -/

/-- The byte a typed number pushes: its low eight bits. -/
def pushedByte (ds : List (BitVec 4)) : Byte := BitVec.ofNat 8 (decimalValue ds % 256)

theorem lowByte_decimal (ds : List (BitVec 4)) : lowByte (BitVec.ofNat 16 (decimalValue ds)) = pushedByte ds := by
  rw [lowByte_eq]
  apply BitVec.eq_of_toNat_eq
  simp only [pushedByte, BitVec.toNat_ofNat]
  omega

theorem pushValue_top {s : State} (h : s.top.toNat ≤ 14) : (pushValue s).top.toNat = min (s.top.toNat + 1) 14 := by
  rcases pushValue_cases s with ⟨hRoom, hp⟩ | ⟨hFull, hp⟩
  · simp only [hp, BitVec.toNat_add]
    simp
    omega
  · simp only [hp]
    omega

/-- Below capacity as on a full stack, a push leaves the first 14 of the bytes pushed so far. -/
theorem stackBytes_pushValue {s : State} (h : s.top.toNat ≤ 14) :
    stackBytes (pushValue s) = (stackBytes s ++ [lowByte s.cv]).take 14 := by
  have hLength : (stackBytes s).length = s.top.toNat := by simp [stackBytes]; omega
  rcases pushValue_cases s with ⟨hRoom, hp⟩ | ⟨hFull, hp⟩
  · have hTop := pushValue_top h
    rw [List.take_of_length_le (by simp [hLength]; omega), stackBytes, hTop, Nat.min_eq_left (by omega), hp]
    simp [stackBytes, Vector.toList_setIfInBounds, List.take_add_one, List.take_set_of_le, hRoom]
  · rw [List.take_append_of_le_length (by omega), List.take_of_length_le (by omega), hp]
    rfl

/-- A number and its comma: its byte is pushed, and the accumulator is empty again. -/
theorem execAll_number (ds : List (BitVec 4)) {s : State} (hr : s.run = .running) (hcv : s.cv = 0)
    (hTop : s.top.toNat ≤ 14) :
    ∃ t : State, execAll (ds.map Instr.digit ++ [Instr.push]) s = .next t ∧
      t = { s with stk := t.stk, top := t.top } ∧ t.top.toNat = min (s.top.toNat + 1) 14 ∧
      stackBytes t = (stackBytes s ++ [pushedByte ds]).take 14 := by
  refine ⟨pushValue { s with cv := BitVec.ofNat 16 (decimalValue ds) }, ?_, ?_, pushValue_top hTop, ?_⟩
  · rw [execAll_append (execAll_digits ds hr hcv)]
    exact execAll_cons (Accumulate.exec_push_of_running (by exact hr)) []
  · rcases pushValue_cases { s with cv := BitVec.ofNat 16 (decimalValue ds) } with ⟨_, hp⟩ | ⟨_, hp⟩ <;> rw [hp, ← hcv]
  · rw [← lowByte_decimal]
    exact stackBytes_pushValue hTop

theorem take_take_append {α : Type} (n : Nat) (l r : List α) : (l.take n ++ r).take n = (l ++ r).take n := by
  rw [List.take_append, List.take_append, List.take_take, Nat.min_self, List.length_take]
  congr 2
  omega

/-- The bytes of the numbers come after those already on the stack, and the first 14 stay (R95). -/
theorem execAll_arguments (numbers : List (List (BitVec 4))) {s : State} (hr : s.run = .running) (hcv : s.cv = 0)
    (hTop : s.top.toNat ≤ 14) :
    ∃ t : State, execAll (argumentString numbers) s = .next t ∧ t = { s with stk := t.stk, top := t.top } ∧
      t.top.toNat = min (s.top.toNat + numbers.length) 14 ∧
      stackBytes t = (stackBytes s ++ numbers.map pushedByte).take 14 := by
  induction numbers generalizing s with
  | nil => exact ⟨s, rfl, rfl, by simpa using hTop, by simp [stackBytes]⟩
  | cons ds numbers ih =>
    obtain ⟨u, hNumber, hKeep, hPushed, hByte⟩ := execAll_number ds hr hcv hTop
    obtain ⟨t, hRest, hFrame, hCount, hBytes⟩ :=
      ih (s := u) (by rw [hKeep]; exact hr) (by rw [hKeep]; exact hcv) (by omega)
    refine ⟨t, (execAll_append hNumber _).trans hRest, ?_, ?_, ?_⟩
    · rw [hFrame, hKeep]
    · rw [hCount, hPushed, List.length_cons]
      omega
    · rw [hBytes, hByte, take_take_append, List.map_cons, List.append_assoc, List.singleton_append]

/-- Settles O9: the list is typed on an empty stack. -/
theorem argumentListFillsStack : Obligations.ArgumentListFillsStack := by
  intro numbers s hr hcv hTop
  obtain ⟨t, hRun, hFrame, hCount, hBytes⟩ := execAll_arguments numbers hr hcv (by simp [hTop])
  have hEmpty : stackBytes s = [] := by simp [stackBytes, hTop]
  refine ⟨t, hRun, hFrame, by simpa [hTop] using hCount, ?_⟩
  calc t.stk.toList.take t.top.toNat
      = (stackBytes s ++ numbers.map pushedByte).take 14 := hBytes
    _ = (numbers.take 14).map pushedByte := by rw [hEmpty, List.nil_append, List.map_take]

end Sys2Proof.Strings
end

section
/-!
PROOFS. The dispatch of characters (spec/41_interp_dispatch.md): the commands `s` and `x`, what every character but a
digit and a comma leaves, what is echoed, and that the interpreter does not see the link.
-/

namespace Sys2Proof.Dispatch

open Sys2Proof.Machine Sys2Proof.Safety Sys2Proof.Effect

/-! The commands -/

/-- The payload body after command `s`: filled from the stack under `BODY_FROM_STACK`, as it was otherwise (R104). -/
theorem read_armRequest_txb (s : State) (k : Nat) :
    Memory.read (armRequest s).txb k =
      if s.cfg.bodyFromStack = true ∧ 1 ≤ k ∧ k ≤ min s.top.toNat 9 then s.stk.toList[k - 1]?
      else Memory.read s.txb k := by
  rw [armRequest_txb]
  by_cases hBody : s.cfg.bodyFromStack = true
  · have hLength : ((stackBytes s).take 9).length = min 9 (min s.top.toNat 14) := by simp [stackBytes]
    simp only [hBody, if_true, true_and, bodyMax_eq, Memory.read_writeList, hLength]
    by_cases hk : 1 ≤ k ∧ k ≤ min s.top.toNat 9
    · rw [if_pos hk, if_pos (by omega), stackBytes, List.getElem?_take_of_lt (by omega),
        List.getElem?_take_of_lt (by omega)]
    · rw [if_neg hk, if_neg (by omega)]
  · simp [hBody]

theorem clearAcc_armRequest_debugEcho (s : State) :
    clearAcc (armRequest (debugEcho s)) =
      { s with
        armed := true, pdest := BitVec.ofNat 8 (s.cv.toNat % 256), plen := s.top, txb := (armRequest s).txb, cv := 0
        top := 0, out := s.out ++ [.conEcho (s.stk.toList.take s.top.toNat) s.cv] } := by
  rw [← lowByte_eq]
  rfl

/-- Settles O10: the body is the store after the request is armed, read at each address. -/
theorem commandSArmsRequest : Obligations.CommandSArmsRequest := by
  refine ⟨by decide, fun s hr => ⟨(armRequest s).txb, ?_, fun hBody => ?_, fun hBody k => ?_⟩⟩
  · calc exec .cmdS s
        = .next (clearAcc (armRequest (debugEcho s))) := exec_char_of_running rfl hr
      _ = _ := by rw [clearAcc_armRequest_debugEcho]
  · simp [hBody]
  · rw [read_armRequest_txb]
    simp only [hBody, true_and]

/-- Settles O12: the format is all of `cv`; nothing but the echo is added to the trace. -/
theorem commandXSetsDisplayFormat : Obligations.CommandXSetsDisplayFormat :=
  ⟨by decide, fun _ hr => exec_char_of_running (i := .cmdX) rfl hr⟩

/-- Settles O16: the effect is the clearing or nothing, as the parameter says. -/
theorem otherCharactersClear : Obligations.OtherCharactersClear := by
  intro c hBlank hDigit hComma hLower
  refine ⟨Encoding.decode_other c hBlank hDigit hComma hLower, fun s hr => ⟨fun h => ?_, fun h => ?_⟩⟩
  · rw [exec_char_of_running rfl hr, interpret, if_pos h]
    rfl
  · rw [exec_char_of_running rfl hr, interpret, if_neg (by simp [h])]

/-! What the clearing leaves -/

/-- The instructions whose last phase is the clearing (R100, R102, R110). -/
def clears : Instr → Bool
  | .cmdS | .cmdN | .cmdX | .cmdV | .cmdH | .cmdLowerNop _ | .charOther _ | .charBlank _ => true
  | _ => false

theorem clears_decode_char :
    ∀ c : Byte, ¬(0x30 ≤ c.toNat ∧ c.toNat ≤ 0x39) → c.toNat ≠ 0x2C → clears (decode (0#2 ++ c)) = true := by decide

theorem interpret_of_clears {s : State} {i : Instr} (hi : clears i = true) (hOther : s.cfg.otherClears = true) :
    (interpret s i).cv = 0 ∧ (interpret s i).top = 0 ∧ (interpret s i).stk = s.stk := by
  cases i with
  | digit d => cases hi
  | push => cases hi
  | evTxdone => cases hi
  | evRxdone size => cases hi
  | evTick => cases hi
  | charOther c => simp [interpret, hOther]
  | _ => exact ⟨rfl, rfl, rfl⟩

/-- Settles O18: every character but a digit and a comma ends with the clearing. -/
theorem dispatchLeavesAccumulatorEmpty : Obligations.DispatchLeavesAccumulatorEmpty := by
  intro c s hr hOther hDigit hComma
  exact ⟨_, exec_char_of_running (Encoding.kind_decode_char c) hr,
    interpret_of_clears (clears_decode_char c hDigit hComma) hOther⟩

/-! The echo -/

theorem isLetter_decode_char :
    ∀ c : Byte, isLetter (decode (0#2 ++ c)) = decide (0x61 ≤ c.toNat ∧ c.toNat ≤ 0x7A) := by decide

theorem commandEvents_no_echo (s : State) (i : Instr) : (commandEvents s i).any isEcho = false := by
  cases i <;> rfl

/-- Settles O19: a letter adds its echo and then its command's event, any other character nothing. -/
theorem echoExactlyForLowercase : Obligations.EchoExactlyForLowercase := by
  intro c s hr
  refine ⟨_, _, exec_char_of_running (Encoding.kind_decode_char c) hr, interpret_out s _, fun hLetter => ?_,
    fun hOther => ?_⟩
  · refine ⟨commandEvents s (decode (0#2 ++ c)), ?_, commandEvents_no_echo s _⟩
    rw [interpretEvents, isLetter_decode_char, if_pos (decide_eq_true hLetter)]
    rfl
  · rw [interpretEvents, isLetter_decode_char, if_neg (by simpa using hOther)]

/-! The link is not seen -/

/-- The state with other values of what the interpreter does not read (R90). -/
def withLink (mode : Mode) (inv armed : Bool) (txb : Memory) (s : State) : State :=
  { s with mode := mode, inv := inv, armed := armed, txb := txb }

/-- Agreement on all that the interpreter writes but `armed` and `txb`. -/
structure SameInterpreter (u t : State) : Prop where
  cv : u.cv = t.cv
  stk : u.stk = t.stk
  top : u.top = t.top
  pdest : u.pdest = t.pdest
  plen : u.plen = t.plen
  nodeId : u.nodeId = t.nodeId
  dispFmt : u.dispFmt = t.dispFmt
  nv : u.nv = t.nv
  out : u.out = t.out

theorem interpret_withLink (mode : Mode) (inv armed : Bool) (txb : Memory) (s : State) (i : Instr) :
    SameInterpreter (interpret (withLink mode inv armed txb s) i) (interpret s i) := by
  cases i with
  | push =>
    rcases Nat.lt_or_ge s.top.toNat 14 with h | h
    · rw [interpret, interpret, pushValue_of_room h, pushValue_of_room (s := withLink mode inv armed txb s) h]
      constructor <;> rfl
    · rw [interpret, interpret, pushValue_of_full h, pushValue_of_full (s := withLink mode inv armed txb s) h]
      constructor <;> rfl
  | charOther c => cases h : s.cfg.otherClears <;> constructor <;> simp [interpret, withLink, h]
  | _ => constructor <;> rfl

/-- Settles O37: while `Running` by `interpret_withLink`; in another phase both states stay as they are. -/
theorem interpreterIgnoresLink : Obligations.InterpreterIgnoresLink := by
  intro i s t mode inv armed txb hk h
  rcases whenRunning_next ((exec_char hk s).symm.trans h) with ⟨hr, hNext⟩ | ⟨hr, rfl⟩
  · cases hNext
    obtain ⟨hCv, hStk, hTop, hPdest, hPlen, hNodeId, hDispFmt, hNv, hOut⟩ :=
      interpret_withLink mode inv armed txb s i
    exact ⟨_, exec_char_of_running (s := withLink mode inv armed txb s) hk hr, hCv, hStk, hTop, hPdest, hPlen,
      hNodeId, hDispFmt, hNv, hOut⟩
  · exact ⟨_, Reset.exec_of_not_running i (s := withLink mode inv armed txb t) hr, rfl, rfl, rfl, rfl, rfl, rfl,
      rfl, rfl, rfl⟩

end Sys2Proof.Dispatch
end

section
/-!
PROOFS. The link and the main loop (spec/42_link_mode_fsm.md, spec/43_scheduler.md): the two notifications, the TICK,
and what an iteration of the main loop does with a request.
-/

namespace Sys2Proof.Link

open Sys2Proof.Machine Sys2Proof.Safety Sys2Proof.Effect

/-! The notifications -/

theorem rxInv_eq (r : Role) : rxInv r = decide (r = .node) := by cases r <;> rfl

theorem txInv_eq (r : Role) : txInv r = decide (r = .gateway) := by cases r <;> rfl

/-- Settles O20: the log, then receive mode. -/
theorem transmitCompleteReturnsToReceive : Obligations.TransmitCompleteReturnsToReceive := by
  intro s hr
  rw [exec_evTxdone_of_running hr, enterReceiveMode_eq]
  simp [emit, rxInv_eq]

/-- Settles O21: the bytes are those received, supplied or free. -/
theorem receivedPacketIsReported : Obligations.ReceivedPacketIsReported := by
  intro size s hr hSize
  exact ⟨receivedBytes size.toNat s, s.draws + (size.toNat - s.rxb.length), exec_evRxdone_of_size_le hr hSize,
    receivedBytes_length _ _, fun k hk hSupplied => receivedBytes_getElem? s hk hSupplied⟩

/-- Settles O22: the marker is all. -/
theorem oversizedPacketIsMarked : Obligations.OversizedPacketIsMarked := by
  intro size s hr hSize
  exact exec_evRxdone_of_oversized hr hSize

/-- Settles O38: by the ways a notification can answer; each reads the link, the display format and `RXB` alone. -/
theorem handlersIgnoreInterpreter : Obligations.HandlersIgnoreInterpreter := by
  intro i s t cv stk top armed pdest plen nodeId txb hk h
  cases exec_effect h with
  | stopped _ hr => exact ⟨_, Reset.exec_of_not_running i (by exact hr), rfl, rfl, rfl, rfl⟩
  | char _ _ hc => simp [hc] at hk
  | txdone hr => exact ⟨_, exec_evTxdone_of_running (by exact hr), rfl, rfl, rfl, rfl⟩
  | oversized size hr hs => exact ⟨_, exec_evRxdone_of_oversized (by exact hr) hs, rfl, rfl, rfl, rfl⟩
  | report size hr hs => exact ⟨_, exec_evRxdone_of_size_le (by exact hr) hs, rfl, rfl, rfl, rfl⟩
  | idle _ => simp [Instr.kind] at hk
  | discard _ _ _ _ => simp [Instr.kind] at hk
  | send _ _ _ _ => simp [Instr.kind] at hk

/-! The TICK -/

theorem tickAction_of_unarmed {s : State} (h : s.armed = false) : tickAction s = .idle := by simp [tickAction, h]

theorem tickAction_of_waiting {s : State} (hm : s.mode = .transmitting) (hp : s.cfg.sendWhileTx = .defer) :
    tickAction s = .idle := by
  cases ha : s.armed <;> simp [tickAction, ha, hm, hp]

/-- Settles O23: without a request the TICK idles. -/
theorem tickWithoutRequestIsIdle : Obligations.TickWithoutRequestIsIdle := by
  intro s hr ha
  exact exec_evTick_of_idle hr (tickAction_of_unarmed ha)

/-- A request that may go is sent: it is consumed, and the last of three events is the transmission. -/
theorem exec_evTick_transmits {s : State} (hr : s.run = .running) (ha : s.armed = true)
    (hm : s.mode = .receiving ∨ s.cfg.sendWhileTx = .reissue) (hn : sendLength s ≤ 10) :
    exec .evTick s = .next (transmit (sendLength s) (enterTransmitMode (requestTaken s))) := by
  rw [exec_evTick_of_send hr ((tickAction_send s).mpr ⟨ha, hm⟩)]
  exact send_next.mpr ⟨hn, rfl⟩

/-- Settles O24: the bytes are read from the buffer after the destination is put first. -/
theorem tickSendsArmedRequest : Obligations.TickSendsArmedRequest := by
  intro s n hr ha hm hLength hn
  obtain rfl : n = sendLength s := hLength
  refine ⟨payloadBytes (sendLength s) (enterTransmitMode (requestTaken s)), Memory.write s.txb 0 s.pdest,
    s.draws + sendLength s, ?_, fun k => Memory.read_write _ _ k _, payloadBytes_length _ _,
    fun k b hk hb => payloadBytes_getElem? hk hb⟩
  rw [exec_evTick_transmits hr ha hm hn]
  simp [transmit, emit, enterTransmitMode_eq, requestTaken, txInv_eq]

/-- Settles O25: the request waits under `Defer`, and is dropped alone under `Drop`. -/
theorem tickWhileTransmitting : Obligations.TickWhileTransmitting := by
  intro s hr ha hm
  exact ⟨fun hp => exec_evTick_of_idle hr (tickAction_of_waiting hm hp),
    fun hp => exec_evTick_of_discard hr ((tickAction_discard s).mpr ⟨ha, hm, hp⟩)⟩

/-! Faults and refusals -/

/-- Only the TICK can fail to answer a next state. -/
theorem exec_next_of_ne_tick {i : Instr} (hi : i ≠ .evTick) (s : State) : ∃ t : State, exec i s = .next t := by
  by_cases hr : s.run = .running
  · cases hk : i.kind with
    | char => exact ⟨_, exec_char_of_running hk hr⟩
    | txdone =>
      cases i <;> cases hk
      exact ⟨_, exec_evTxdone_of_running hr⟩
    | rxdone =>
      cases i <;> cases hk
      exact ⟨_, whenRunning_of_running _ hr⟩
    | tick =>
      cases i <;> cases hk
      exact absurd rfl hi
  · exact ⟨s, Reset.exec_of_not_running i hr⟩

/-- A TICK faults exactly when it sends more than 10 bytes. -/
theorem exec_evTick_fault {s : State} {f : Fault} :
    exec .evTick s = .fault f ↔
      s.run = .running ∧ tickAction s = .send ∧ 10 < sendLength s ∧ f = .txLengthViolation (sendLength s) := by
  by_cases hr : s.run = .running
  · cases ha : tickAction s with
    | send => simp [exec_evTick_of_send hr ha, hr, send_fault]
    | discard => simp [exec_evTick_of_discard hr ha]
    | idle => simp [exec_evTick_of_idle hr ha]
  · simp [Reset.exec_of_not_running _ hr, hr]

/-- Settles O28: no instruction but the TICK faults, and the TICK exactly on a send above the bound. -/
theorem onlyOverlongSendFaults : Obligations.OnlyOverlongSendFaults := by
  intro i s n
  by_cases hi : i = .evTick
  · subst hi
    rw [exec_evTick_fault, tickAction_send]
    simp only [Fault.txLengthViolation.injEq, true_and]
    constructor
    · rintro ⟨hr, ⟨ha, hm⟩, hn, rfl⟩
      exact ⟨hr, ha, hm, rfl, hn⟩
    · rintro ⟨hr, ha, hm, rfl, hn⟩
      exact ⟨hr, ⟨ha, hm⟩, hn, rfl⟩
  · obtain ⟨t, ht⟩ := exec_next_of_ne_tick hi s
    simp [ht, hi]

/-- Settles O29: only a TICK could, and what it does is idle, discard or `Send`. -/
theorem noInstructionIsRefused : Obligations.NoInstructionIsRefused := by
  intro i s r
  by_cases hi : i = .evTick
  · subst hi
    by_cases hr : s.run = .running
    · cases ha : tickAction s with
      | send => exact exec_evTick_of_send hr ha ▸ send_not_refused _ _ r
      | discard => simp [exec_evTick_of_discard hr ha]
      | idle => simp [exec_evTick_of_idle hr ha]
    · simp [Reset.exec_of_not_running _ hr]
  · obtain ⟨t, ht⟩ := exec_next_of_ne_tick hi s
    simp [ht]

/-! The main loop -/

theorem interpretEvents_no_transmit (s : State) (i : Instr) : (interpretEvents s i).any isTransmit = false := by
  rw [List.any_eq_false]
  exact forall_mem_interpretEvents (by simp [isTransmit]) (by simp [isTransmit]) (by simp [isTransmit])
    (by simp [isTransmit]) i

/-- Settles O26: the iteration with a character is that character, the one without is a TICK. -/
theorem mainLoopArbitration : Obligations.MainLoopArbitration := by
  intro available s hr
  have hTick : decode (iterationWord none) = .evTick := Encoding.decode_tick 0
  refine ⟨fun hSome => ?_, fun hNone ha hm hn => ?_, fun hNone ha => ?_⟩
  · obtain ⟨c, rfl⟩ := Option.isSome_iff_exists.mp hSome
    exact ⟨_, _, exec_char_of_running (Encoding.kind_decode_char c) hr, interpret_out s _,
      interpretEvents_no_transmit s _, (interpret_keepsLink s _).mode, fun ha => interpret_armed ha _⟩
  · subst hNone
    obtain ⟨bytes, txb, m, hExec, _⟩ := tickSendsArmedRequest s _ hr ha (.inl hm) rfl hn
    rw [hTick]
    exact ⟨_, _, hExec, rfl, rfl, rfl, rfl⟩
  · subst hNone
    rw [hTick]
    exact tickWithoutRequestIsIdle s hr ha

/-- Settles O27: by induction over the characters, each of which keeps the request, the mode and the phase. -/
theorem inputStarvesSends : Obligations.InputStarvesSends := by
  intro chars
  induction chars with
  | nil => exact fun s hr ha => ⟨s, [], rfl, hr, ha, rfl, by simp, rfl⟩
  | cons c cs ih =>
    intro s hr ha
    have hLink := interpret_keepsLink s (decode (0#2 ++ c))
    obtain ⟨t, added, hRun, hRunning, hArmed, hMode, hOut, hNone⟩ :=
      ih (interpret s (decode (0#2 ++ c))) (hLink.run.trans hr) (interpret_armed ha _)
    refine ⟨t, interpretEvents s (decode (0#2 ++ c)) ++ added, ?_, hRunning, hArmed, hMode.trans hLink.mode, ?_, ?_⟩
    · exact (Strings.execAll_cons (exec_char_of_running (Encoding.kind_decode_char c) hr) _).trans hRun
    · rw [hOut, interpret_out, List.append_assoc]
    · rw [List.any_append, interpretEvents_no_transmit, hNone, Bool.or_false]

/-- Settles O30: the first TICK waits, the TXDONE returns to receive, and the second TICK sends. -/
theorem deferredRequestIsSentAfterTxDone : Obligations.DeferredRequestIsSentAfterTxDone := by
  intro s hr ha hm hp hLen hPlen
  have hWait := (tickWhileTransmitting s hr ha hm).1 hp
  have hDone := transmitCompleteReturnsToReceive s hr
  obtain ⟨bytes, txb, m, hExec, hRead, hLength, hBytes⟩ :=
    tickSendsArmedRequest
      { s with
        mode := .receiving, inv := decide (s.cfg.role = .node)
        out := s.out ++ [.conTxDoneLog, .xcvrSetInvert (decide (s.cfg.role = .node)), .xcvrRxContinuous] }
      (1 + s.plen.toNat) hr ha (.inl rfl) (by simp [hLen]) (by omega)
  have hHead : bytes[0]? = some s.pdest := hBytes 0 _ (by omega) (hRead 0)
  obtain ⟨body, rfl⟩ : ∃ body, bytes = s.pdest :: body := by
    cases bytes with
    | nil => simp at hHead
    | cons b body => exact ⟨body, by simpa using hHead⟩
  refine ⟨_, _, body, (Strings.execAll_cons hWait _).trans (Strings.execAll_cons hDone []), hExec, ha, rfl, rfl, rfl,
    by simpa [Nat.add_comm] using hLength, by simp⟩

/-- Settles O31: every byte below the length is known after command `s`, the destination first. -/
theorem bodyFromStackIsTransmitted : Obligations.BodyFromStackIsTransmitted := by
  intro s hr hm hBody hLen hTop
  obtain ⟨body, hCmd, _, hFilled⟩ := Dispatch.commandSArmsRequest.2 s hr
  obtain ⟨bytes, txb, m, hExec, hRead, hLength, hBytes⟩ :=
    tickSendsArmedRequest
      { s with
        armed := true, pdest := BitVec.ofNat 8 (s.cv.toNat % 256), plen := s.top, txb := body, cv := 0, top := 0
        out := s.out ++ [.conEcho (s.stk.toList.take s.top.toNat) s.cv] }
      (1 + s.top.toNat) hr rfl (.inl hm) (by simp [hLen]) (by omega)
  refine ⟨_, (Strings.execAll_cons hCmd _).trans (Strings.execAll_cons hExec []), ?_⟩
  suffices h : bytes = BitVec.ofNat 8 (s.cv.toNat % 256) :: s.stk.toList.take s.top.toNat by simp [h]
  apply List.ext_getElem
  · simp [hLength]
    omega
  · intro k hk hk'
    have hKnown : Memory.read txb k =
        some (BitVec.ofNat 8 (s.cv.toNat % 256) :: s.stk.toList.take s.top.toNat)[k] := by
      cases k with
      | zero => exact hRead 0
      | succ k =>
        simp only [List.length_cons, List.length_take] at hk'
        rw [hRead, if_neg (by omega), hFilled hBody, if_pos (by omega)]
        simp
    exact (List.getElem_eq_iff hk).mpr (hBytes k _ (by omega) hKnown)

end Sys2Proof.Link
end

section
/-!
PROOFS. Rules about all instructions (spec/10_state.md R35, R36, R42; spec/42_link_mode_fsm.md R120;
spec/43_scheduler.md R146), each by the ways an instruction can answer a next state.
-/

namespace Sys2Proof.Rules

open Sys2Proof.Machine Sys2Proof.Safety Sys2Proof.Effect

/-- Settles O39. -/
theorem noEffectOutsideRunning : Obligations.NoEffectOutsideRunning :=
  fun i _ hr => Reset.exec_of_not_running i hr

/-! The phase -/

/-- No instruction changes the phase or the parameters. -/
theorem exec_run_cfg {i : Instr} {s t : State} (h : exec i s = .next t) : t.run = s.run ∧ t.cfg = s.cfg := by
  cases exec_effect h with
  | char i _ _ => exact ⟨(interpret_keepsLink s i).run, (interpret_keepsLink s i).cfg⟩
  | _ => exact ⟨rfl, rfl⟩

/-! The link mode and the request -/

/-- Settles O32: only the TXDONE and the sending TICK write `mode`. -/
theorem modeHasTwoEdges : Obligations.ModeHasTwoEdges := by
  intro i s t h hMode
  cases exec_effect h with
  | char i _ _ => exact absurd (interpret_keepsLink s i).mode hMode
  | txdone _ =>
    cases hm : s.mode with
    | receiving => exact absurd hm.symm hMode
    | transmitting => exact .inr ⟨rfl, rfl, rfl⟩
  | send _ ha _ _ =>
    cases hm : s.mode with
    | receiving => exact .inl ⟨rfl, rfl, rfl, ha, rfl⟩
    | transmitting => exact absurd hm.symm hMode
  | stopped _ _ => exact absurd rfl hMode
  | oversized _ _ _ => exact absurd rfl hMode
  | report _ _ _ => exact absurd rfl hMode
  | idle _ => exact absurd rfl hMode
  | discard _ _ _ _ => exact absurd rfl hMode

/-- Settles O33: only a TICK clears `armed`, by a discard or by a send. -/
theorem requestConsumedByOneSend : Obligations.RequestConsumedByOneSend := by
  intro i s t h hArmed hConsumed
  have hKept : t.armed ≠ s.armed := by simp [hArmed, hConsumed]
  cases exec_effect h with
  | char i _ _ => simp [interpret_armed hArmed i] at hConsumed
  | discard _ _ _ hp => exact ⟨rfl, fun hDrop => absurd hp hDrop⟩
  | send _ _ _ _ => exact ⟨rfl, fun _ => ⟨sendEvents s, send_out s, rfl⟩⟩
  | stopped _ _ => exact absurd rfl hKept
  | txdone _ => exact absurd rfl hKept
  | oversized _ _ _ => exact absurd rfl hKept
  | report _ _ _ => exact absurd rfl hKept
  | idle _ => exact absurd rfl hKept

/-! The configuration -/

theorem interpret_nodeId_nv {i : Instr} (hi : i ≠ .cmdN) (s : State) :
    (interpret s i).nodeId = s.nodeId ∧ (interpret s i).nv = s.nv := by
  cases i with
  | cmdN => exact absurd rfl hi
  | push => rcases pushValue_cases s with ⟨_, h⟩ | ⟨_, h⟩ <;> simp [interpret, h]
  | charOther c => rcases interpret_charOther_cases c s with h | h <;> simp [h]
  | _ => exact ⟨rfl, rfl⟩

theorem interpret_dispFmt {i : Instr} (hi : i ≠ .cmdX) (s : State) : (interpret s i).dispFmt = s.dispFmt := by
  cases i with
  | cmdX => exact absurd rfl hi
  | push => rcases pushValue_cases s with ⟨_, h⟩ | ⟨_, h⟩ <;> simp [interpret, h]
  | charOther c => rcases interpret_charOther_cases c s with h | h <;> simp [h]
  | _ => rfl

/-- Settles O34: among the characters by `interpret_nodeId_nv`; the other events write neither. -/
theorem onlyCommandNWritesNodeId : Obligations.OnlyCommandNWritesNodeId := by
  intro i s t h hWritten
  by_contra hi
  have hKept : t.nodeId = s.nodeId ∧ t.nv = s.nv := by
    cases exec_effect h with
    | char i _ _ => exact interpret_nodeId_nv hi s
    | _ => exact ⟨rfl, rfl⟩
  exact hWritten.elim (fun hId => hId hKept.1) fun hNv => hNv hKept.2

/-- Settles O35: among the characters by `interpret_dispFmt`; the other events do not write the format. -/
theorem onlyCommandXWritesDisplayFormat : Obligations.OnlyCommandXWritesDisplayFormat := by
  intro i s t h hWritten
  by_contra hi
  apply hWritten
  cases exec_effect h with
  | char i _ _ => exact interpret_dispFmt hi s
  | _ => rfl

/-! Ownership -/

/-- Settles O36: each kind of event in its ways. -/
theorem stateOwnership : Obligations.StateOwnership := by
  intro i s t h
  refine ⟨fun hk => ?_, fun hk => ?_, fun hk => ?_, (exec_run_cfg h).1⟩
  · cases exec_effect h with
    | char _ _ hc => simp [hc] at hk
    | discard _ _ _ _ => simp [Instr.kind] at hk
    | send _ _ _ _ => simp [Instr.kind] at hk
    | _ => exact ⟨rfl, rfl, rfl, rfl, rfl, rfl, rfl, rfl, rfl, rfl⟩
  · cases exec_effect h with
    | char _ _ hc => simp [hc] at hk
    | txdone _ => cases hk
    | send _ _ _ _ => cases hk
    | _ => exact ⟨rfl, rfl⟩
  · cases exec_effect h with
    | char i _ _ =>
      exact ⟨(interpret_keepsLink s i).mode, (interpret_keepsLink s i).inv, (interpret_keepsLink s i).txInFlight⟩
    | stopped _ _ => exact ⟨rfl, rfl, rfl⟩
    | _ => cases hk

end Sys2Proof.Rules
end

section
/-!
PROOFS. Steps, boot and the power cycle (spec/70_reset_and_hazards.md): what one step can do, said once, the value and
the events of a boot, and the statements that follow from them.
-/

namespace Sys2Proof.Steps

open Sys2Proof.Machine Sys2Proof.Safety Sys2Proof.Effect

/-! Delivery -/

/-- The state in which a presented event is executed: it is consumed, and the environment's own part is delivered. -/
def delivered (kind : EventKind) (rx : List Byte) (rest : List Stimulus) (s : State) : State :=
  { s with
    pending := rest
    rxb := if kind = .rxdone then rx else s.rxb
    txInFlight := if kind = .txdone then false else s.txInFlight }

theorem deliver_eq_delivered (kind : EventKind) (rx : List Byte) (rest : List Stimulus) (s : State) :
    deliver kind rx { s with pending := rest } = delivered kind rx rest s := by
  cases kind <;> rfl

theorem step_event {s : State} {word : EventWord} {rx : List Byte} {rest : List Stimulus}
    (h : s.pending = .event word rx :: rest) :
    step s = exec (decode word) (delivered (decode word).kind rx rest s) := by
  rw [← deliver_eq_delivered]
  simp [step, h]

/-- Settles O40. -/
theorem stepRunsDecodedEvent : Obligations.StepRunsDecodedEvent :=
  fun _ _ _ _ h => step_event h

/-- Settles O41. -/
theorem stepWaitsForEnvironment : Obligations.StepWaitsForEnvironment :=
  fun _ h => step_idle h

/-! All steps -/

/-- The ways in which a step that answers a next state can answer it. -/
inductive StepEffect (s : State) : State → Prop
  | waiting : StepEffect s s
  | event (word : EventWord) (rx : List Byte) (rest : List Stimulus) (t : State) :
      s.pending = .event word rx :: rest →
      exec (decode word) (delivered (decode word).kind rx rest s) = .next t → StepEffect s t
  | ready (rest : List Stimulus) : StepEffect s { s with pending := rest }
  | boot (ok : Bool) (answer : Byte) (rest : List Stimulus) : s.run = .booting →
      StepEffect s (bootProcedure ok answer { s with pending := rest })
  | powerCycle (rest : List Stimulus) : s.pending = .powerCycle :: rest →
      StepEffect s (powerOn { s with pending := rest })

theorem step_effect {s t : State} (h : step s = .next t) : StepEffect s t := by
  cases hp : s.pending with
  | nil =>
    cases (step_idle hp).symm.trans h
    exact .waiting
  | cons stimulus rest =>
    cases stimulus with
    | event word rx => exact .event word rx rest t hp ((step_event hp).symm.trans h)
    | consoleReady ok answer =>
      by_cases hb : s.run = .booting
      · cases (step_boot hb hp).symm.trans h
        exact .boot ok answer rest hb
      · have hStep := step_consoleReady hp
        rw [consoleReady_not_booting (s := { s with pending := rest }) ok answer hb] at hStep
        cases hStep.symm.trans h
        exact .ready rest
    | powerCycle =>
      cases (step_powerCycle hp).symm.trans h
      exact .powerCycle rest hp

/-- What every part of boot keeps, boot keeps, in both orders and on failure as on success. -/
theorem bootProcedure_keeps {P : State → Prop} (hClear : ∀ s, P s → P (clearAtBoot s))
    (hLoad : ∀ answer s, P s → P (configLoad answer s)) (hInit : ∀ s, P s → P (initTransceiver s))
    (hHalt : ∀ s, P s → P (haltAfterInitFailure s)) (hStart : ∀ s, P s → P (startRunning s)) (ok : Bool)
    (answer : Byte) {s : State} (h : P s) : P (bootProcedure ok answer s) := by
  cases ok with
  | true =>
    cases hOrder : s.cfg.bootLoadBeforeInit with
    | true =>
      rw [bootProcedure_loadFirst answer s hOrder]
      exact hStart _ (hInit _ (hLoad _ _ (hClear _ h)))
    | false =>
      rw [bootProcedure_initFirst answer s hOrder]
      exact hStart _ (hLoad _ _ (hInit _ (hClear _ h)))
  | false =>
    rw [bootProcedure_failed]
    split
    · exact hHalt _ (hInit _ (hLoad _ _ (hClear _ h)))
    · exact hHalt _ (hInit _ (hClear _ h))

/-! The node id at boot -/

/-- The node id a boot leaves when the store answers `v` (R173). -/
def bootNodeId (v : Byte) : Byte := if 1 ≤ v.toNat ∧ v.toNat ≤ 7 then v else 1

/-- What the load emits when the store answers `v`: the write that repairs it, or nothing (R173). -/
def repairEvents (addr : Nat) (v : Byte) : List OutEvent :=
  if 1 ≤ v.toNat ∧ v.toNat ≤ 7 then [] else [.nvWrite addr 1]

theorem configLoad_eq {answer v : Byte} {s : State} (hv : v = memReadNodeId answer s) :
    configLoad answer s =
      { s with
        nodeId := bootNodeId v, nv := Memory.write s.nv s.cfg.nvNodeIdAddr (bootNodeId v)
        out := s.out ++ repairEvents s.cfg.nvNodeIdAddr v } := by
  rcases configLoad_cases answer s with ⟨hRange, h⟩ | ⟨hRange, h⟩
  · have hOutside : ¬(1 ≤ v.toNat ∧ v.toNat ≤ 7) := by
      rw [hv]
      omega
    rw [h, bootNodeId, repairEvents, if_neg hOutside, if_neg hOutside]
    rfl
  · rw [← hv] at h hRange
    rw [h, bootNodeId, repairEvents, if_pos hRange, if_pos hRange, List.append_nil]
    rfl

/-- Settles O43: one address of the store is written, with the byte that boot leaves. -/
theorem configLoadRepairsNodeId : Obligations.ConfigLoadRepairsNodeId := by
  intro answer v s hv
  rw [configLoad_eq hv]
  refine ⟨Memory.write s.nv s.cfg.nvNodeIdAddr (bootNodeId v), fun a ha => Memory.read_write_other _ _ ha,
    fun hOutside => ?_, fun hLow hHigh => ?_⟩
  · have hRange : ¬(1 ≤ v.toNat ∧ v.toNat ≤ 7) := by omega
    rw [Memory.read_write_same, bootNodeId, repairEvents, if_neg hRange, if_neg hRange]
    exact ⟨rfl, rfl⟩
  · have hRange : 1 ≤ v.toNat ∧ v.toNat ≤ 7 := ⟨hLow, hHigh⟩
    rw [Memory.read_write_same, bootNodeId, repairEvents, if_pos hRange, if_pos hRange, List.append_nil]
    exact ⟨rfl, rfl⟩

/-! Boot -/

/-- Settles O44: in either order the load is `configLoad_eq`, and receive mode is entered last. -/
theorem bootLeavesResetValues : Obligations.BootLeavesResetValues := by
  intro answer v rest s hBooting hPending hv
  refine ⟨Memory.write s.nv s.cfg.nvNodeIdAddr (bootNodeId v), Memory.read_write_same _ _ _,
    fun a ha => Memory.read_write_other _ _ ha, ?_⟩
  rw [step_boot hBooting hPending]
  cases hOrder : s.cfg.bootLoadBeforeInit with
  | true =>
    rw [bootProcedure_loadFirst _ _ (by exact hOrder), configLoad_eq (v := v) (by exact hv)]
    simp [startRunning, enterReceiveMode_eq, initTransceiver, clearAtBoot, emit, bootNodeId, repairEvents,
      Link.rxInv_eq]
  | false =>
    rw [bootProcedure_initFirst _ _ (by exact hOrder), configLoad_eq (v := v) (by exact hv)]
    simp [startRunning, enterReceiveMode_eq, initTransceiver, clearAtBoot, emit, bootNodeId, repairEvents,
      Link.rxInv_eq]

/-- Settles O46: a failed boot loads the configuration before it commands the transceiver, or not at all. -/
theorem failedBootTouchesStoreByOrder : Obligations.FailedBootTouchesStoreByOrder := by
  intro answer rest s t hBooting hPending hStep
  cases (step_boot hBooting hPending).symm.trans hStep
  rw [bootProcedure_failed]
  refine ⟨fun hOrder => ?_, fun hOrder => ?_⟩
  · simp [hOrder, haltAfterInitFailure]
  · rw [if_pos (by exact hOrder), configLoad_eq (s := s) rfl, configLoad_eq (s := clearAtBoot _) rfl]
    exact ⟨rfl, rfl, by simp [memReadNodeId]⟩

/-- Settles O47: an event is consumed by a block that is not `Running`, and the console's readiness by one that does not
wait for it. -/
theorem onlyPowerCycleLeavesHalted : Obligations.OnlyPowerCycleLeavesHalted := by
  intro s hHalted hNoCycle
  cases hp : s.pending with
  | nil => exact ⟨s.pending, s.rxb, s.txInFlight, step_idle hp⟩
  | cons stimulus rest =>
    cases stimulus with
    | event word rx =>
      refine ⟨_, _, _, (step_event hp).trans (Reset.exec_of_not_running _ ?_)⟩
      simp [delivered, hHalted]
    | consoleReady ok answer =>
      refine ⟨rest, s.rxb, s.txInFlight, (step_consoleReady hp).trans ?_⟩
      rw [consoleReady_not_booting ok answer (by simp [hHalted])]
    | powerCycle => exact absurd hp (hNoCycle rest)

/-- Settles O42. -/
theorem resetIsBooting : Obligations.ResetIsBooting :=
  ⟨rfl, rfl, rfl, rfl, fun i => Reset.exec_of_not_running i (by decide)⟩

/-- Settles O48: the answered state is `powerOn`, read field by field. -/
theorem powerCycleKeepsOnlyStore : Obligations.PowerCycleKeepsOnlyStore := by
  intro rest s hPending
  exact ⟨_, step_powerCycle hPending, rfl, rfl, rfl, rfl, rfl, rfl, rfl, rfl, rfl, rfl, rfl, rfl, rfl, rfl, rfl, rfl,
    rfl, rfl⟩

/-- A power cycle keeps the store, and the boot after it takes the node id from there. -/
theorem reboot_nodeId (answer : Byte) {id : Byte} {s : State}
    (h : Memory.read s.nv s.cfg.nvNodeIdAddr = some id) :
    ∃ u v : State, step { s with pending := [.powerCycle, .consoleReady true answer] } = .next u ∧
      step u = .next v ∧ v.run = .running ∧ v.nodeId = bootNodeId id := by
  obtain ⟨_, _, _, hBoot⟩ :=
    bootLeavesResetValues answer id [] (powerOn { s with pending := [.consoleReady true answer] }) rfl rfl (by simp [h])
  exact ⟨_, _, step_powerCycle rfl, hBoot, rfl, rfl⟩

/-- Settles O49: `n` stores the node id, and the boot reads it back. -/
theorem nodeIdAfterReboot : Obligations.NodeIdAfterReboot := by
  intro answer s t h hr
  obtain ⟨id, nv, hId, hExec, hRead⟩ := Dispatch.commandNSetsAndPersistsNodeId.2 s hr
  cases hExec.symm.trans h
  refine ⟨by simp only [hId]; omega, reboot_nodeId answer ?_⟩
  simp [hRead]

/-- Settles O53: the boot's own events are none of those that take turns. -/
theorem bootStartsAlternation : Obligations.BootStartsAlternation := by
  intro answer rest s hBooting hOut hPending
  obtain ⟨nv, _, _, hBoot⟩ := bootLeavesResetValues answer _ rest s hBooting hPending rfl
  refine ⟨_, hBoot, rfl, ?_, by simp⟩
  simp only [hOut]
  split <;> split <;> rfl

/-! What every step keeps -/

/-- Settles O56: no instruction and no part of boot writes the parameters, and a power cycle keeps them. -/
theorem parametersNeverChange : Obligations.ParametersNeverChange := by
  intro s t h
  cases step_effect h with
  | waiting => rfl
  | event word rx rest t hp he => exact (Rules.exec_run_cfg he).2
  | ready rest => rfl
  | boot ok answer rest hb =>
    exact bootProcedure_keeps (P := fun u => u.cfg = s.cfg) (fun _ h => h) (fun _ _ h => by simp [h]) (fun _ h => h)
      (fun _ h => h) (fun _ h => h) ok answer rfl
  | powerCycle rest hp => rfl

end Sys2Proof.Steps
end

section
/-!
PROOFS. The invariant of the machine (spec/10_state.md R43, spec/20_memory.md R54): each operation keeps it, hence each
instruction, each part of boot, and each step.
-/

namespace Sys2Proof.Invariant

open Sys2Proof.Machine Sys2Proof.Safety Sys2Proof.Effect

/-- The invariant as a conjunction of relations between fields. -/
theorem inv_iff {s : State} :
    Inv s ↔
      (s.top.toNat ≤ 14 ∧ s.nodeId.toNat ≤ 63 ∧ (s.armed = true → s.plen.toNat ≤ 14) ∧
        (s.run = .running → s.inv = modeInv s.cfg.role s.mode)) ∧
      Memory.wf s.nv ∧ Memory.wf s.txb ∧ ∀ c ∈ s.txb, c.1 < 10 :=
  ⟨fun ⟨⟨hTop, hNodeId, hPlen, hInv⟩, ⟨hNv, hTxb, hLt⟩⟩ => ⟨⟨hTop, hNodeId, hPlen, hInv⟩, hNv, hTxb, hLt⟩,
    fun ⟨⟨hTop, hNodeId, hPlen, hInv⟩, hNv, hTxb, hLt⟩ => ⟨⟨hTop, hNodeId, hPlen, hInv⟩, ⟨hNv, hTxb, hLt⟩⟩⟩

/-- The fields the invariant speaks of. -/
def invFields (s : State) :=
  (s.top, s.nodeId, s.armed, s.plen, s.run, s.inv, s.cfg, s.mode, s.nv, s.txb)

theorem inv_of_invFields_eq {s t : State} (h : Inv s) (hSame : invFields t = invFields s) : Inv t := by
  simp only [invFields, Prod.mk.injEq] at hSame
  obtain ⟨hTop, hNodeId, hArmed, hPlen, hRun, hInv, hCfg, hMode, hNv, hTxb⟩ := hSame
  rw [inv_iff] at h ⊢
  rwa [hTop, hNodeId, hArmed, hPlen, hRun, hInv, hCfg, hMode, hNv, hTxb]

/-- Settles O50. -/
theorem resetMeetsInv : Obligations.ResetMeetsInv :=
  inv_iff.mpr ⟨by decide, State.reset_nv_wf, State.reset_txb_wf, by simp [State.reset]⟩

/-! The operations -/

section

variable {s : State} (h : Inv s)

include h

theorem inv_emit (e : OutEvent) : Inv (emit e s) := inv_of_invFields_eq h rfl

theorem inv_accumulate (d : BitVec 4) : Inv (accumulate d s) := inv_of_invFields_eq h rfl

theorem inv_setDisplayFormat : Inv (setDisplayFormat s) := inv_of_invFields_eq h rfl

theorem inv_drainRx (n : Nat) : Inv (drainRx n s) := inv_of_invFields_eq h rfl

theorem inv_transmit (n : Nat) : Inv (transmit n s) := inv_of_invFields_eq h rfl

theorem inv_delivered (kind : EventKind) (rx : List Byte) (rest : List Stimulus) :
    Inv (Steps.delivered kind rx rest s) := inv_of_invFields_eq h rfl

theorem inv_initTransceiver : Inv (initTransceiver s) := inv_of_invFields_eq h rfl

theorem inv_clearAcc : Inv (clearAcc s) := by
  obtain ⟨⟨_, hRegs⟩, hStores⟩ := inv_iff.mp h
  exact inv_iff.mpr ⟨⟨by simp, hRegs⟩, hStores⟩

theorem inv_pushValue : Inv (pushValue s) := by
  obtain ⟨⟨hTop, hRegs⟩, hStores⟩ := inv_iff.mp h
  have hPushed := Strings.pushValue_top hTop
  rcases pushValue_cases s with ⟨_, hp⟩ | ⟨_, hp⟩ <;> rw [hp] at hPushed ⊢ <;>
    exact inv_iff.mpr ⟨⟨by omega, hRegs⟩, hStores⟩

/-- The body lies at 1 to 9, and the count of body bytes is the stack's. -/
theorem inv_armRequest : Inv (armRequest s) := by
  obtain ⟨⟨hTop, hNodeId, _, hInv⟩, hNv, hTxb, hLt⟩ := inv_iff.mp h
  refine inv_iff.mpr ⟨⟨hTop, hNodeId, fun _ => hTop, hInv⟩, hNv, ?_⟩
  rw [armRequest_txb]
  split
  · refine ⟨Memory.wf_writeList _ _ hTxb, fun c hc => ?_⟩
    rcases Memory.mem_writeList hc with ⟨_, hc⟩ | hc
    · simp only [List.length_take, bodyMax_eq] at hc
      omega
    · exact hLt c hc
  · exact ⟨hTxb, hLt⟩

/-- Any node id of six bits may be set, with any byte stored. -/
theorem inv_storeNodeId {id v : Byte} (hId : id.toNat ≤ 63) (addr : Nat) :
    Inv { s with nodeId := id, nv := Memory.write s.nv addr v } := by
  obtain ⟨⟨hTop, _, hRegs⟩, hNv, hTxb⟩ := inv_iff.mp h
  exact inv_iff.mpr ⟨⟨hTop, hId, hRegs⟩, Memory.wf_write _ _ hNv, hTxb⟩

theorem inv_setNodeId : Inv (setNodeId s) := by
  have hId : (Dispatch.newNodeId s).toNat ≤ 63 := by
    rw [Dispatch.newNodeId_toNat]
    omega
  exact inv_emit (inv_storeNodeId h hId _) _

theorem inv_configLoad (answer : Byte) : Inv (configLoad answer s) := by
  have hId : (Steps.bootNodeId (memReadNodeId answer s)).toNat ≤ 63 := by
    unfold Steps.bootNodeId
    split
    · omega
    · decide
  rw [Steps.configLoad_eq rfl]
  exact inv_of_invFields_eq (inv_storeNodeId h hId _) rfl

theorem inv_enterReceiveMode : Inv (enterReceiveMode s) := by
  obtain ⟨⟨hTop, hNodeId, hPlen, _⟩, hStores⟩ := inv_iff.mp h
  exact inv_iff.mpr ⟨⟨hTop, hNodeId, hPlen, fun _ => rfl⟩, hStores⟩

theorem inv_enterTransmitMode : Inv (enterTransmitMode s) := by
  obtain ⟨⟨hTop, hNodeId, hPlen, _⟩, hStores⟩ := inv_iff.mp h
  exact inv_iff.mpr ⟨⟨hTop, hNodeId, hPlen, fun _ => rfl⟩, hStores⟩

theorem inv_unarmed : Inv { s with armed := false } := by
  obtain ⟨⟨hTop, hNodeId, _, hInv⟩, hStores⟩ := inv_iff.mp h
  exact inv_iff.mpr ⟨⟨hTop, hNodeId, by simp, hInv⟩, hStores⟩

theorem inv_requestTaken : Inv (requestTaken s) := by
  obtain ⟨hRegs, hNv, hTxb, hLt⟩ := inv_iff.mp (inv_unarmed h)
  refine inv_iff.mpr ⟨hRegs, hNv, Memory.wf_write _ _ hTxb, fun c hc => ?_⟩
  rcases Memory.mem_write hc with hc | hc
  · omega
  · exact hLt c hc

theorem inv_clearAtBoot : Inv (clearAtBoot s) := by
  obtain ⟨⟨_, hNodeId, _, hInv⟩, hStores⟩ := inv_iff.mp h
  exact inv_iff.mpr ⟨⟨by simp, hNodeId, by simp, hInv⟩, hStores⟩

theorem inv_haltAfterInitFailure : Inv (haltAfterInitFailure s) := by
  obtain ⟨⟨hTop, hNodeId, hPlen, _⟩, hStores⟩ := inv_iff.mp h
  exact inv_iff.mpr ⟨⟨hTop, hNodeId, hPlen, by simp⟩, hStores⟩

theorem inv_startRunning : Inv (startRunning s) := by
  obtain ⟨⟨hTop, hNodeId, hPlen, _⟩, hStores⟩ := inv_iff.mp h
  exact inv_iff.mpr ⟨⟨hTop, hNodeId, hPlen, fun _ => rfl⟩, hStores⟩

theorem inv_powerOn : Inv (powerOn s) := by
  obtain ⟨_, hNv, _⟩ := inv_iff.mp h
  exact inv_iff.mpr ⟨by simp [State.reset]; decide, hNv, State.reset_txb_wf, by simp [State.reset]⟩

/-! Characters, instructions and steps -/

theorem inv_interpret (i : Instr) : Inv (interpret s i) := by
  have hEcho : Inv (debugEcho s) := inv_emit h _
  cases i with
  | digit d => exact inv_accumulate h d
  | push => exact inv_pushValue h
  | cmdS => exact inv_clearAcc (inv_armRequest hEcho)
  | cmdN => exact inv_clearAcc (inv_setNodeId hEcho)
  | cmdX => exact inv_clearAcc (inv_setDisplayFormat hEcho)
  | cmdV => exact inv_clearAcc (inv_emit hEcho _)
  | cmdH => exact inv_clearAcc (inv_emit hEcho _)
  | cmdLowerNop c => exact inv_clearAcc hEcho
  | charOther c =>
    rcases interpret_charOther_cases c s with hc | hc <;> rw [hc]
    · exact inv_clearAcc h
    · exact h
  | charBlank c => exact inv_clearAcc h
  | evTxdone => exact h
  | evRxdone size => exact h
  | evTick => exact h

theorem inv_exec {i : Instr} {t : State} (he : exec i s = .next t) : Inv t := by
  cases exec_effect he with
  | stopped _ _ => exact h
  | char i _ _ => exact inv_interpret h i
  | txdone _ => exact inv_enterReceiveMode (inv_emit h _)
  | oversized _ _ _ => exact inv_emit h _
  | report size _ _ => exact inv_drainRx (inv_emit h _) _
  | idle _ => exact h
  | discard _ _ _ _ => exact inv_unarmed h
  | send _ _ _ _ => exact inv_transmit (inv_enterTransmitMode (inv_requestTaken h)) _

end

/-- Settles O51: by the ways a step can answer. -/
theorem stepKeepsInv : Obligations.StepKeepsInv := by
  intro s t h hStep
  have hConsumed (rest : List Stimulus) : Inv { s with pending := rest } := inv_of_invFields_eq h rfl
  cases Steps.step_effect hStep with
  | waiting => exact h
  | event word rx rest t _ he => exact inv_exec (inv_delivered h _ rx rest) he
  | ready rest => exact hConsumed rest
  | boot ok answer rest _ =>
    exact Steps.bootProcedure_keeps (P := Inv) (fun _ => inv_clearAtBoot) (fun answer _ h => inv_configLoad h answer)
      (fun _ => inv_initTransceiver) (fun _ => inv_haltAfterInitFailure) (fun _ => inv_startRunning) ok answer
      (hConsumed rest)
  | powerCycle rest _ => exact inv_powerOn (hConsumed rest)

/-- Settles O57: the invariant makes each inversion a function of role and mode, and there are two roles. -/
theorem rolesSeparatedByInversion : Obligations.RolesSeparatedByInversion := by
  rintro s u ⟨hs, _⟩ ⟨hu, _⟩ hsRun huRun hsMode huMode
  rw [hs.inv_eq hsRun, hu.inv_eq huRun, hsMode, huMode]
  cases s.cfg.role <;> cases u.cfg.role <;> simp [modeInv, rxInv, txInv]

end Sys2Proof.Invariant
end

section
/-!
PROOFS. The output trace: an instruction and a boot append events, which keep their bounds (spec/60_exceptions.md R162,
spec/00_scope.md R16).
-/

namespace Sys2Proof.Trace

open Sys2Proof.Machine Sys2Proof.Safety Sys2Proof.Effect

theorem legalTrace_append {s t : State} {added : List OutEvent} (hs : LegalTrace s) (hOut : t.out = s.out ++ added)
    (hAdded : ∀ e ∈ added, legalEvent e) : LegalTrace t := by
  intro e he
  rw [hOut] at he
  exact (List.mem_append.mp he).elim (hs e) (hAdded e)

/-! What is added is within its bounds -/

theorem legal_interpretEvents {s : State} (hId : s.nodeId.toNat ≤ 63) (i : Instr) :
    ∀ e ∈ interpretEvents s i, legalEvent e := by
  have hNewId : (Dispatch.newNodeId s).toNat ≤ 63 := by
    rw [Dispatch.newNodeId_toNat]
    omega
  exact forall_mem_interpretEvents (stackBytes_length_le s) hNewId trivial hId i

theorem legal_txdoneEvents (s : State) : ∀ e ∈ txdoneEvents s, legalEvent e := by
  simp [txdoneEvents, legalEvent]

theorem legal_sendEvents {s : State} (hLow : 1 ≤ sendLength s) (hHigh : sendLength s ≤ 10) :
    ∀ e ∈ sendEvents s, legalEvent e := by
  simp [sendEvents, legalEvent, hLow, hHigh]

theorem legal_repairEvents (addr : Nat) (v : Byte) : ∀ e ∈ Steps.repairEvents addr v, legalEvent e := by
  unfold Steps.repairEvents
  split <;> simp [legalEvent]

/-! What instructions and boot append -/

/-- Every instruction appends to the trace; with the default length and a node id of six bits, within the bounds. -/
theorem exec_out {i : Instr} {s t : State} (h : exec i s = .next t) :
    ∃ added : List OutEvent, t.out = s.out ++ added ∧
      (s.cfg.txLen = [] → s.nodeId.toNat ≤ 63 → ∀ e ∈ added, legalEvent e) := by
  cases exec_effect h with
  | char i _ _ => exact ⟨_, interpret_out s i, fun _ hId => legal_interpretEvents hId i⟩
  | txdone _ => exact ⟨_, txdone_out s, fun _ _ => legal_txdoneEvents s⟩
  | oversized _ _ _ => exact ⟨[.conRxError], rfl, by simp [legalEvent]⟩
  | report size _ hs =>
    exact ⟨[.conRxReport s.dispFmt (receivedBytes size.toNat s)], rfl, by simpa [legalEvent] using fun _ _ => hs⟩
  | send _ _ _ hn =>
    refine ⟨_, send_out s, fun hLen _ => legal_sendEvents ?_ hn⟩
    simp [sendLength, hLen]
  | stopped _ _ => exact ⟨[], by simp, by simp⟩
  | idle _ => exact ⟨[], by simp, by simp⟩
  | discard _ _ _ _ => exact ⟨[], by simp, by simp⟩

/-- The trace of `t` is that of `s` with events appended that keep their bounds. -/
def LegalExtension (s t : State) : Prop :=
  ∃ added : List OutEvent, t.out = s.out ++ added ∧ ∀ e ∈ added, legalEvent e

theorem legalExtension_append {s t u : State} {added : List OutEvent} (h : LegalExtension s t)
    (hOut : u.out = t.out ++ added) (hAdded : ∀ e ∈ added, legalEvent e) : LegalExtension s u := by
  obtain ⟨before, hBefore, hLegal⟩ := h
  exact ⟨before ++ added, by rw [hOut, hBefore, List.append_assoc], List.forall_mem_append.mpr ⟨hLegal, hAdded⟩⟩

/-- Boot appends to the trace within the bounds, whatever it finds. -/
theorem bootProcedure_out (ok : Bool) (answer : Byte) (s : State) : LegalExtension s (bootProcedure ok answer s) := by
  refine Steps.bootProcedure_keeps (P := LegalExtension s) (fun u h => ?_) (fun answer u h => ?_) (fun u h => ?_)
    (fun u h => ?_) (fun u h => ?_) ok answer ⟨[], by simp, by simp⟩
  · exact legalExtension_append h (added := []) (by simp) (by simp)
  · exact legalExtension_append h (by rw [Steps.configLoad_eq rfl]) (legal_repairEvents _ _)
  · exact legalExtension_append h (initTransceiver_out u) (by simp [legalEvent])
  · exact legalExtension_append h (Reset.haltAfterInitFailure_out u) (by simp [legalEvent])
  · exact legalExtension_append h (added := [.xcvrSetInvert (rxInv u.cfg.role), .xcvrRxContinuous])
      (by simp [startRunning]) (by simp [legalEvent])

/-! The statements -/

/-- Settles O55: by the ways a step can answer. -/
theorem traceOnlyGrows : Obligations.TraceOnlyGrows := by
  intro s t h
  cases Steps.step_effect h with
  | event word rx rest t _ he =>
    obtain ⟨added, hOut, _⟩ := exec_out he
    exact ⟨added, hOut⟩
  | boot ok answer rest _ =>
    obtain ⟨added, hOut, _⟩ := bootProcedure_out ok answer { s with pending := rest }
    exact ⟨added, hOut⟩
  | waiting => exact ⟨[], by simp⟩
  | ready rest => exact ⟨[], by simp⟩
  | powerCycle rest _ => exact ⟨[], by simp⟩

/-- Settles O54: by the ways a step can answer; an instruction starts from the delivered state, which has the node id
and the parameters of `s`. -/
theorem stepKeepsTraceLegal : Obligations.StepKeepsTraceLegal := by
  rintro s t hLen ⟨hInv, _⟩ hLegal h
  cases Steps.step_effect h with
  | event word rx rest t _ he =>
    obtain ⟨added, hOut, hAdded⟩ := exec_out he
    exact legalTrace_append hLegal hOut (hAdded hLen hInv.nodeId_le)
  | boot ok answer rest _ =>
    obtain ⟨added, hOut, hAdded⟩ := bootProcedure_out ok answer { s with pending := rest }
    exact legalTrace_append hLegal hOut hAdded
  | waiting => exact hLegal
  | ready rest => exact hLegal
  | powerCycle rest _ => exact hLegal

end Sys2Proof.Trace
end

section
/-!
PROOFS. The alternation law (spec/42_link_mode_fsm.md R128): under `Defer` and in a lawful environment, transmissions
and completion logs take turns in the trace, and the mode is the one they say.
-/

namespace Sys2Proof.Alternation

open Sys2Proof.Machine Sys2Proof.Safety Sys2Proof.Effect

theorem linkPhase_append (out added : List OutEvent) :
    linkPhase (out ++ added) = added.foldl linkAfter (linkPhase out) := List.foldl_append

/-- An event that is neither a transmission nor a completion log. -/
def Quiet (e : OutEvent) : Prop := ∀ m : Option Mode, linkAfter m e = m

theorem foldl_linkAfter_of_quiet {added : List OutEvent} (h : ∀ e ∈ added, Quiet e) (m : Option Mode) :
    added.foldl linkAfter m = m := by
  induction added with
  | nil => rfl
  | cons e es ih =>
    obtain ⟨he, hes⟩ := List.forall_mem_cons.mp h
    rw [List.foldl_cons, he m, ih hes]

theorem quiet_interpretEvents (s : State) (i : Instr) : ∀ e ∈ interpretEvents s i, Quiet e := by
  have hQuiet : Quiet (.conEcho (stackBytes s) s.cv) ∧ Quiet (.nvWrite s.cfg.nvNodeIdAddr (Dispatch.newNodeId s)) ∧
      Quiet .conIdent ∧ Quiet (.conHelp s.nodeId) := by simp [Quiet, linkAfter]
  obtain ⟨hEcho, hWrite, hIdent, hHelp⟩ := hQuiet
  exact forall_mem_interpretEvents hEcho hWrite hIdent hHelp i

/-- A step that adds quiet events and leaves the phase, the mode and the flag of a transmission keeps the law. -/
theorem linkInv_of_quiet {s t : State} {added : List OutEvent} (h : LinkInv s) (hRun : t.run = s.run)
    (hMode : t.mode = s.mode) (hFlight : t.txInFlight = s.txInFlight) (hOut : t.out = s.out ++ added)
    (hQuiet : ∀ e ∈ added, Quiet e) : LinkInv t where
  running := hRun.trans h.running
  phase := by rw [hOut, linkPhase_append, foldl_linkAfter_of_quiet hQuiet, h.phase, hMode]
  inFlight := by rw [hFlight, hMode]; exact h.inFlight

/-- A transmission is sent only while receiving. -/
theorem linkInv_send {s : State} (h : LinkInv s) (hm : s.mode = .receiving) :
    LinkInv (transmit (sendLength s) (enterTransmitMode (requestTaken s))) where
  running := h.running
  phase := by
    rw [send_out, linkPhase_append, h.phase, hm]
    rfl
  inFlight := by simp

/-- A TXDONE comes only while transmitting. -/
theorem linkInv_txdone {s : State} (hRun : s.run = .running) (hPhase : linkPhase s.out = some .transmitting)
    (hFlight : s.txInFlight = false) : LinkInv (enterReceiveMode (emit .conTxDoneLog s)) where
  running := hRun
  phase := by
    rw [txdone_out, linkPhase_append, hPhase]
    rfl
  inFlight := by simp [hFlight]

/-- Under `Defer` any instruction but TXDONE keeps the law. -/
theorem linkInv_exec {i : Instr} {s t : State} (h : LinkInv s) (hp : s.cfg.sendWhileTx = .defer) (hi : i ≠ .evTxdone)
    (he : exec i s = .next t) : LinkInv t := by
  cases exec_effect he with
  | stopped _ _ => exact h
  | char i _ _ =>
    have hKeep := interpret_keepsLink s i
    exact linkInv_of_quiet h hKeep.run hKeep.mode hKeep.txInFlight (interpret_out s i) (quiet_interpretEvents s i)
  | txdone _ => exact absurd rfl hi
  | oversized _ _ _ => exact linkInv_of_quiet h rfl rfl rfl rfl (by simp [Quiet, linkAfter])
  | report size _ _ => exact linkInv_of_quiet h rfl rfl rfl rfl (by simp [Quiet, linkAfter])
  | idle _ => exact h
  | discard _ _ _ hDrop => simp [hp] at hDrop
  | send _ _ hMay _ => exact linkInv_send h (hMay.resolve_right (by simp [hp]))

theorem kind_eq_txdone {i : Instr} (h : i.kind = .txdone) : i = .evTxdone := by
  cases i <;> cases h
  rfl

/-- Settles O52: a TXDONE comes while a transmission is in flight, so while transmitting; nothing else but a send, and
so while receiving, adds an event that takes turns. -/
theorem linkAlternates : Obligations.LinkAlternates := by
  intro s t hDefer hLawful h hStep
  cases Steps.step_effect hStep with
  | waiting => exact h
  | event word rx rest t hp he =>
    by_cases hi : decode word = .evTxdone
    · have hMode : s.mode = .transmitting := h.inFlight.mp (hLawful.txdone word rx rest hp hi)
      rw [hi, exec_evTxdone_of_running (by exact h.running)] at he
      cases he
      exact linkInv_txdone h.running (h.phase.trans (congrArg some hMode)) rfl
    · have hDelivered : LinkInv (Steps.delivered (decode word).kind rx rest s) :=
        linkInv_of_quiet (added := []) h rfl rfl (if_neg fun hk => hi (kind_eq_txdone hk)) (by simp [Steps.delivered])
          (by simp)
      exact linkInv_exec hDelivered hDefer hi he
  | ready rest => exact ⟨h.running, h.phase, h.inFlight⟩
  | boot ok answer rest hb => simp [h.running] at hb
  | powerCycle rest hp => exact absurd hp (hLawful.noPowerCycle rest)

end Sys2Proof.Alternation
end

section
/-!
PROOFS. The text of a received byte and of a report (spec/42_link_mode_fsm.md R131).
-/

namespace Sys2Proof.Rendering

open Sys2Proof.Machine Sys2Proof.Safety Sys2Proof.Effect

/-! Digits -/

theorem digitChar_decimal {n : Nat} (h : n < 10) : (digitChar n).toNat = 0x30 + n := by
  simp [digitChar, h]
  omega

theorem digitChar_hex : ∀ n < 16, isHexDigit (digitChar n) = true ∧ hexDigitValue (digitChar n) = n := by decide

/-! Bytes -/

/-- The digits of a byte, most significant first. -/
theorem decimalText_cases (b : Byte) :
    ∃ ns : List Nat, decimalText b = ns.map digitChar ∧ ns ≠ [] ∧ (∀ n ∈ ns, n < 10) ∧
      ns.foldl (fun v n => v * 10 + n) 0 = b.toNat := by
  have hByte := b.isLt
  simp only [decimalText]
  split
  · exact ⟨[b.toNat], rfl, by simp, by simpa, by simp⟩
  · split
    · exact ⟨[b.toNat / 10, b.toNat % 10], rfl, by simp, by simp; omega, by simp; omega⟩
    · exact ⟨[b.toNat / 100, b.toNat / 10 % 10, b.toNat % 10], rfl, by simp, by simp; omega, by simp; omega⟩

/-- Reading digit characters gives back the number their digits spell. -/
theorem foldl_digitChar {ns : List Nat} (h : ∀ n ∈ ns, n < 10) (v : Nat) :
    (ns.map digitChar).foldl (fun v c => v * 10 + (c.toNat - 0x30)) v = ns.foldl (fun v n => v * 10 + n) v := by
  induction ns generalizing v with
  | nil => rfl
  | cons n ns ih =>
    obtain ⟨hn, hns⟩ := List.forall_mem_cons.mp h
    rw [List.map_cons, List.foldl_cons, List.foldl_cons, digitChar_decimal hn, Nat.add_sub_cancel_left, ih hns]

theorem hexText_two_digits {b : Byte} (h : 0x10 ≤ b.toNat) :
    byteText 1 b = [digitChar (b.toNat / 16), digitChar (b.toNat % 16)] := by
  have hText : byteText 1 b = hexText b := rfl
  rw [hText, hexText, if_pos (.inl h)]

/-- Settles O58: decimal by the count of digits, hexadecimal by the two digits of a byte of at least 0x10. -/
theorem byteRendering : Obligations.ByteRendering := by
  refine ⟨fun b => ?_, by decide, fun b hb => ?_⟩
  · obtain ⟨ns, hText, hNonempty, hDigits, hValue⟩ := decimalText_cases b
    refine ⟨ns.map digitChar, congrArg _ hText, by simpa using hNonempty, fun c hc => ?_,
      (foldl_digitChar hDigits 0).trans hValue⟩
    obtain ⟨n, hn, rfl⟩ := List.mem_map.mp hc
    have hn : n < 10 := hDigits n hn
    rw [digitChar_decimal hn]
    omega
  · obtain ⟨hHigh, hHighValue⟩ := digitChar_hex (b.toNat / 16) (by omega)
    obtain ⟨hLow, hLowValue⟩ := digitChar_hex (b.toNat % 16) (by omega)
    refine ⟨_, _, hexText_two_digits hb, hHigh, hLow, ?_⟩
    rw [hHighValue, hLowValue]
    omega

/-! Reports -/

theorem consoleOutput_reportPacket (n : Nat) (s : State) :
    consoleOutput (reportPacket n s) = consoleOutput s ++ reportText s.dispFmt (receivedBytes n s) :=
  consoleOutput_emit (.conRxReport s.dispFmt (receivedBytes n s)) s

/-- A packet of one byte shows the line of that byte. -/
theorem consoleOutput_of_one_byte {s : State} {b : Byte} (hr : s.run = .running) (hb : s.rxb = [b]) :
    ∃ t : State, exec (.evRxdone 1) s = .next t ∧ consoleOutput t = consoleOutput s ++ reportText s.dispFmt [b] := by
  have hBytes : receivedBytes 1 s = [b] := by simp [receivedBytes, hb]
  exact ⟨_, exec_evRxdone_of_size_le hr (by decide), hBytes ▸ consoleOutput_reportPacket 1 s⟩

theorem reportText_hex_AB : reportText 1 [0xAB] = [0x41, 0x42] ++ Config.reportEnd 1 := rfl

theorem reportText_decimal_AB : reportText 0 [0xAB] = [0x20, 0x31, 0x37, 0x31] ++ Config.reportEnd 0 := rfl

/-- Settles O59: the report's line follows what was shown, and the line is made of the bytes' texts. -/
theorem reportRendering : Obligations.ReportRendering := by
  refine ⟨fun s hr hb => ?_, fun fmt bytes hFmt => ?_⟩
  · obtain ⟨t, hExec, hShown⟩ := consoleOutput_of_one_byte hr hb
    refine ⟨t, hExec, fun hFmt => ?_, fun hFmt => ?_⟩
    · rw [hShown, hFmt, reportText_hex_AB, List.append_assoc]
    · rw [hShown, hFmt, reportText_decimal_AB, List.append_assoc]
  · rcases hFmt with rfl | rfl
    · exact ⟨_, congrArg some (reportText_decimal bytes), fun _ => List.flatMap_def, fun h => absurd h (by decide)⟩
    · exact ⟨_, congrArg some (reportText_hex bytes), fun h => absurd h (by decide), fun _ => rfl⟩

end Sys2Proof.Rendering
end
